-- ==== Sys2Proof/Word.lean ====
section
/-! DEFINITION. The word types of the block (00_scope.md R9, R10; 20_memory.md R50): bytes, channels,
unit numbers, clock values and the snapshot of the three lines. -/

namespace Sys2Proof

/-- Every address, data and status byte, and the shift register (00_scope.md R6 `BYTE_W` = 8, R9). -/
abbrev Byte := BitVec 8

/-- A channel number, 0..15 (20_memory.md R50 (b)). -/
abbrev Channel := Fin 16

/-- A unit number that a LISTEN or TALK byte can name, 0..30: 31 is taken by the broadcast commands
(30_encoding.md R72). Which of them are units is the configuration's range. -/
abbrev UnitNo := Fin 31

/-- A clock value (00_scope.md R12 (a): an unbounded natural number). -/
abbrev Clock := Nat

/-- The composite line levels read at the start of an `exec` call, `true` = high
(00_scope.md R10, R11; 40_bus_fabric.md R100). -/
structure Snapshot where
  atn  : Bool
  clk  : Bool
  data : Bool
deriving DecidableEq, Repr, Inhabited

/-- What `UnitStep` and every phase rule are given: the unit, the snapshot of this `exec` call and its
clock value (42_atn_arbitration.md R125). -/
structure StepCtx where
  unit : UnitNo
  snap : Snapshot
  now  : Clock
deriving DecidableEq, Repr, Inhabited

end Sys2Proof
end

