-- ==== Sys2Proof/Machine/Clock.lean ====
section
/-! DEFINITION. The two clock computations of the block: the conversion of microseconds to ticks
(00_scope.md R7) and the elapsed time a threshold is compared with (R12, 60_exceptions.md R220). -/

namespace Sys2Proof.Machine

/-- `us(n) = floor(n × CPS / 1000000)` (00_scope.md R7). -/
def us (cps n : Nat) : Nat := n * cps / 1000000

/-- `elapsed = now - stamp` (00_scope.md R11, R12). With the unbounded clock it is the natural number
difference, 0 where the stamp lies ahead of the clock (no run of the host loop gets there; DESIGN CHOICE,
notes/assumptions/10.md, 21.md); with a clock of `w` bits it is taken modulo `2^w` (60_exceptions.md R220). -/
def elapsed (clockW : Option Nat) (now stamp : Clock) : Nat :=
  match clockW with
  | none   => now - stamp
  | some w => (((now : Int) - (stamp : Int)) % ((2 : Int) ^ w)).toNat

end Sys2Proof.Machine
end

