-- ==== Sys2Proof/Config.lean ====
section
/-! DEFINITION. The configuration record of 00_scope.md R6, the constraints of 70_reset_and_hazards.md
R251, the types of the Dispatcher interface (45_dispatcher.md R190) and the Dispatcher itself as an
opaque oracle: nothing is known of its answers. -/

namespace Sys2Proof

/-- The implementation parameters (00_scope.md R6), in ticks where they are times. The record is fixed for
the life of a block instance (20_memory.md R64). `unitMin` and `unitMax` are at most 30 by their type
(30_encoding.md R72). `clockW = none` is the unbounded clock of R12. -/
structure Config where
  unitMin     : UnitNo
  unitMax     : UnitNo
  clockW      : Option Nat
  cps         : Nat
  tRxSettle   : Nat
  tEoi        : Nat
  tEoiAck     : Nat
  tTxSettle   : Nat
  tBit        : Nat
  tAck        : Nat
  tRetry      : Nat
  statusEoi   : Byte
  execStepMax : Nat
deriving DecidableEq, Repr

/-- The seven thresholds (60_exceptions.md R220). -/
def Config.thresholds (c : Config) : List Nat :=
  [c.tRxSettle, c.tEoi, c.tEoiAck, c.tTxSettle, c.tBit, c.tAck, c.tRetry]

/-- The constraints K1 to K6, and `CPS ≥ 1` of K7, of 70_reset_and_hazards.md R251, with the condition of
60_exceptions.md R220 on a finite clock. They are hypotheses for statements about interoperation; no
rule of the block needs or checks them (93_implementation_defined.md U11). -/
abbrev Config.Valid (c : Config) : Prop :=
  c.unitMin ≤ c.unitMax ∧ c.statusEoi ≠ 0#8 ∧ max c.tBit 1 + 2 ≤ c.tEoi ∧ 2 ≤ c.tAck ∧
  1 ≤ c.tEoiAck ∧ 1 ≤ c.tRetry ∧ (∀ t ∈ c.thresholds, t ≠ 0 → c.execStepMax ≤ t) ∧ 1 ≤ c.cps ∧
  (∀ w ∈ c.clockW, ∀ t ∈ c.thresholds, t < 2 ^ w)

/-- K7, second half: the thresholds come from the clock-rate conversion only (R251, 00_scope.md R7). -/
def Config.FromMicroseconds (c : Config) : Prop :=
  ∀ t ∈ c.thresholds, ∃ n, t = Machine.us c.cps n

/-- The spec's suggested values (00_scope.md R6) at a given clock rate. `EXEC_STEP_MAX` has no default; 1 is
what every example of the spec uses (92_eei_decisions.md section 1).
DESIGN CHOICE, unsafe where a statement rests on a value (notes/assumptions/1.md). -/
def Config.suggested (cps : Nat) : Config where
  unitMin     := 4
  unitMax     := 15
  clockW      := none
  cps         := cps
  tRxSettle   := Machine.us cps 100
  tEoi        := Machine.us cps 200
  tEoiAck     := Machine.us cps 80
  tTxSettle   := Machine.us cps 80
  tBit        := Machine.us cps 70
  tAck        := Machine.us cps 1000
  tRetry      := Machine.us cps 100
  statusEoi   := 0x40#8
  execStepMax := 1

/-- One call to the Dispatcher with its arguments (45_dispatcher.md R190). -/
inductive DispCall where
  | openCall       (u : UnitNo) (c : Channel)
  | closeCall      (u : UnitNo) (c : Channel)
  | channelCommand (u : UnitNo) (c : Channel)
  | write          (u : UnitNo) (c : Channel) (b : Byte)
  | read           (u : UnitNo) (c : Channel)
  | unlisten       (u : UnitNo) (c : Channel) (prior : Byte)
  | untalk         (u : UnitNo) (c : Channel) (prior : Byte)
deriving DecidableEq, Repr, Inhabited

/-- The unit a call names. -/
def DispCall.unit : DispCall → UnitNo
  | .openCall u _ | .closeCall u _ | .channelCommand u _ | .write u _ _ | .read u _
  | .unlisten u _ _ | .untalk u _ _ => u

/-- The channel a call names. -/
def DispCall.channel : DispCall → Channel
  | .openCall _ c | .closeCall _ c | .channelCommand _ c | .write _ c _ | .read _ c
  | .unlisten _ c _ | .untalk _ c _ => c

/-- An answer of the Dispatcher. Every call returns a status; only `read` returns a byte, and the byte of
any other answer is not used (45_dispatcher.md R190). Every value of either is legal (R201). -/
structure Answer where
  byte   : Byte
  status : Byte
deriving DecidableEq, Repr, Inhabited

/-- One entry of the observable call sequence (45_dispatcher.md R190): the call, the unit's status table
as the Dispatcher could see it at that moment (R199), and the answer it gave. -/
structure CallRecord where
  call   : DispCall
  table  : Vector Byte 16
  answer : Answer
deriving DecidableEq, Repr

/-- The Dispatcher as an oracle (45_dispatcher.md R190, R199): its answer to a call, from the calls before
it (the newest first) and the status table it may read. OPAQUE: a free value, nothing is known of it
(notes/assumptions/7.md). -/
opaque Config.dispatcher (history : List CallRecord) (call : DispCall) (table : Vector Byte 16) : Answer

end Sys2Proof
end

