-- ==== Sys2Proof/Syntax.lean ====
section
/-! DEFINITION. The instructions of the block, one constructor per row of spec/opcode_table.json
(00_scope.md R2: bus commands, edge events, controller operations, fabric operations, Dispatcher calls
and phase steps). -/

namespace Sys2Proof

/-- The instruction set. A command, edge or phase row names the unit that takes it; a phase or edge row
carries the snapshot and the clock of the `exec` call it belongs to (42_atn_arbitration.md R125). -/
inductive Instr where
  -- format P, primary address byte (30_encoding.md R70, R73)
  /-- LISTEN a, as unit `u` acts on it (42_atn_arbitration.md R131; R136 when `a` is another address). -/
  | listen (u : UnitNo) (a : BitVec 5)
  /-- UNLISTEN, broadcast (R134). -/
  | unlisten (u : UnitNo)
  /-- TALK a, as unit `u` acts on it (R132; R136 when `a` is another address). -/
  | talk (u : UnitNo) (a : BitVec 5)
  /-- UNTALK, broadcast (R135). -/
  | untalk (u : UnitNo)
  /-- Any other primary byte (R136). -/
  | other (u : UnitNo) (p : Byte)
  -- format S, secondary address byte (30_encoding.md R74, R75)
  /-- OPEN c (42_atn_arbitration.md R133). -/
  | openCmd (u : UnitNo) (c : Channel)
  /-- CLOSE c (R133). -/
  | closeCmd (u : UnitNo) (c : Channel)
  /-- Data-channel command: high nibble `k`, neither 0xF nor 0xE (R133). -/
  | dataCmd (u : UnitNo) (k : BitVec 4) (c : Channel)
  -- format EV, the two ATN edges
  /-- ATN falling edge (R126). -/
  | atnFall (x : StepCtx)
  /-- ATN rising edge (R127). -/
  | atnRise (x : StepCtx)
  -- format CTL, controller operations (41_device_controller.md)
  /-- No operation this call (30_encoding.md R84). -/
  | nop
  /-- `init()` (R111). -/
  | init
  /-- `enable(u)`, any integer (R112). -/
  | enable (u : Int)
  /-- `disable(u)`, any integer (R114). -/
  | disable (u : Int)
  /-- `reset()` (R115). -/
  | reset
  /-- `exec(now)` (R116). -/
  | exec (now : Clock)
  -- format FAB, fabric operations (40_bus_fabric.md)
  /-- `read`, the composite snapshot (R100). -/
  | fread
  /-- `write`, one slot's contribution (R101). -/
  | fwrite (u : UnitNo) (cl dl : Bool)
  -- format DSP, Dispatcher calls (45_dispatcher.md)
  /-- `open(u, c)` (R191). -/
  | dispOpen (u : UnitNo) (c : Channel)
  /-- `close(u, c)` (R192). -/
  | dispClose (u : UnitNo) (c : Channel)
  /-- `channelCommand(u, c)` (R193). -/
  | dispChannelCommand (u : UnitNo) (c : Channel)
  /-- `write(u, c, b)` (R194). -/
  | dispWrite (u : UnitNo) (c : Channel) (b : Byte)
  /-- `read(u, c)` (R195). -/
  | dispRead (u : UnitNo) (c : Channel)
  /-- `unlisten(u, c, p)` (R196). -/
  | dispUnlisten (u : UnitNo) (c : Channel) (p : Byte)
  /-- `untalk(u, c, p)` (R197). -/
  | dispUntalk (u : UnitNo) (c : Channel) (p : Byte)
  -- format PH-RX, receive phase steps (43_byte_receive.md)
  /-- R146. -/
  | rxPre0 (x : StepCtx)
  /-- R147. -/
  | rxPre1 (x : StepCtx)
  /-- R148. -/
  | rxReady (x : StepCtx)
  /-- R149. -/
  | rxEoi (x : StepCtx)
  /-- R150. -/
  | rxEoiw (x : StepCtx)
  /-- R151. -/
  | rxBit0 (x : StepCtx)
  /-- R152. -/
  | rxBitw0 (x : StepCtx)
  /-- R151. -/
  | rxBit1 (x : StepCtx)
  /-- R152. -/
  | rxBitw1 (x : StepCtx)
  /-- R151. -/
  | rxBit2 (x : StepCtx)
  /-- R152. -/
  | rxBitw2 (x : StepCtx)
  /-- R151. -/
  | rxBit3 (x : StepCtx)
  /-- R152. -/
  | rxBitw3 (x : StepCtx)
  /-- R151. -/
  | rxBit4 (x : StepCtx)
  /-- R152. -/
  | rxBitw4 (x : StepCtx)
  /-- R151. -/
  | rxBit5 (x : StepCtx)
  /-- R152. -/
  | rxBitw5 (x : StepCtx)
  /-- R151. -/
  | rxBit6 (x : StepCtx)
  /-- R152. -/
  | rxBitw6 (x : StepCtx)
  /-- R151. -/
  | rxBit7 (x : StepCtx)
  /-- R153. -/
  | rxBitw7Atn (x : StepCtx)
  /-- R154. -/
  | rxBitw7Listen (x : StepCtx)
  /-- R156. -/
  | rxDone0 (x : StepCtx)
  /-- R155. -/
  | rxDone1 (x : StepCtx)
  /-- R156. -/
  | rxRetry0 (x : StepCtx)
  /-- R156. -/
  | rxRetry1 (x : StepCtx)
  -- format PH-TX, transmit phase steps (44_byte_transmit.md)
  /-- R165. -/
  | txPre0 (x : StepCtx)
  /-- R166. -/
  | txPre1 (x : StepCtx)
  /-- R167, R180. -/
  | txReady (x : StepCtx)
  /-- R168. -/
  | txEoi (x : StepCtx)
  /-- R169. -/
  | txEoiw (x : StepCtx)
  /-- R171. -/
  | txBit0 (x : StepCtx)
  /-- R172. -/
  | txBitw0 (x : StepCtx)
  /-- R171. -/
  | txBit1 (x : StepCtx)
  /-- R172. -/
  | txBitw1 (x : StepCtx)
  /-- R171. -/
  | txBit2 (x : StepCtx)
  /-- R172. -/
  | txBitw2 (x : StepCtx)
  /-- R171. -/
  | txBit3 (x : StepCtx)
  /-- R172. -/
  | txBitw3 (x : StepCtx)
  /-- R171. -/
  | txBit4 (x : StepCtx)
  /-- R172. -/
  | txBitw4 (x : StepCtx)
  /-- R171. -/
  | txBit5 (x : StepCtx)
  /-- R172. -/
  | txBitw5 (x : StepCtx)
  /-- R171. -/
  | txBit6 (x : StepCtx)
  /-- R172. -/
  | txBitw6 (x : StepCtx)
  /-- R171. -/
  | txBit7 (x : StepCtx)
  /-- R172. -/
  | txBitw7 (x : StepCtx)
  /-- R173. -/
  | txDone0 (x : StepCtx)
  /-- R174, R175. -/
  | txDone1 (x : StepCtx)
  /-- R176. -/
  | txRetry0 (x : StepCtx)
  /-- R177. -/
  | txRetry1 (x : StepCtx)
deriving DecidableEq, Repr

/-- The row RX.BITn (43_byte_receive.md R151). -/
def Instr.rxBit (n : Fin 8) (x : StepCtx) : Instr :=
  match n with
  | 0 => .rxBit0 x
  | 1 => .rxBit1 x
  | 2 => .rxBit2 x
  | 3 => .rxBit3 x
  | 4 => .rxBit4 x
  | 5 => .rxBit5 x
  | 6 => .rxBit6 x
  | 7 => .rxBit7 x

/-- The row RX.BITWn for n < 7 (43_byte_receive.md R152). -/
def Instr.rxBitw (n : Fin 7) (x : StepCtx) : Instr :=
  match n with
  | 0 => .rxBitw0 x
  | 1 => .rxBitw1 x
  | 2 => .rxBitw2 x
  | 3 => .rxBitw3 x
  | 4 => .rxBitw4 x
  | 5 => .rxBitw5 x
  | 6 => .rxBitw6 x

/-- The row TX.BITn (44_byte_transmit.md R171). -/
def Instr.txBit (n : Fin 8) (x : StepCtx) : Instr :=
  match n with
  | 0 => .txBit0 x
  | 1 => .txBit1 x
  | 2 => .txBit2 x
  | 3 => .txBit3 x
  | 4 => .txBit4 x
  | 5 => .txBit5 x
  | 6 => .txBit6 x
  | 7 => .txBit7 x

/-- The row TX.BITWn (44_byte_transmit.md R172). -/
def Instr.txBitw (n : Fin 8) (x : StepCtx) : Instr :=
  match n with
  | 0 => .txBitw0 x
  | 1 => .txBitw1 x
  | 2 => .txBitw2 x
  | 3 => .txBitw3 x
  | 4 => .txBitw4 x
  | 5 => .txBitw5 x
  | 6 => .txBitw6 x
  | 7 => .txBitw7 x

end Sys2Proof
end

