-- ==== Sys2Proof/WellFormed.lean ====
section
/-! DEFINITION. Which instructions are well formed: an operand that another row of the table takes for
itself is not an operand of this row (30_encoding.md R70 to R75). -/

namespace Sys2Proof

/-- The operand checks of each row; a row with none takes every operand of its types. -/
def Instr.wellFormed : Instr → Bool
  | .listen _ a     => a != 31#5                              -- 0x3F is UNLISTEN (R70)
  | .talk _ a       => a != 31#5                              -- 0x5F is UNTALK (R70)
  | .other _ p      => p.toNat < 0x20 || 0x60 ≤ p.toNat       -- neither the LISTEN nor the TALK group (R73)
  | .dataCmd _ k _  => k != 0xF#4 && k != 0xE#4               -- 0xF_ is OPEN, 0xE_ is CLOSE (R75)
  | _               => true

end Sys2Proof
end

