-- ==== Sys2Proof/Decode.lean ====
section
/-! DEFINITION. The decoder and the encoder, written from 30_encoding.md and spec/opcode_table.json. An
instruction word is the code the table gives, in the format whose port it arrives on, beside the operand
lines of that port. The table's codes are numbered per format, so the format is part of the word. -/

namespace Sys2Proof

/-- The eight formats of spec/opcode_table.json. -/
inductive Format where
  /-- primary address byte (30_encoding.md R70) -/
  | p
  /-- secondary address byte (R74) -/
  | s
  /-- ATN edge (42_atn_arbitration.md R125) -/
  | ev
  /-- controller operation select (R84) -/
  | ctl
  /-- fabric operation select (R86) -/
  | fab
  /-- Dispatcher call select (R85) -/
  | dsp
  /-- receive phase code (R83) -/
  | rx
  /-- transmit phase code (R83) -/
  | tx
deriving DecidableEq, Repr, Inhabited

/-- What the operation port holds for one instruction: the format, the table's code in the low bits of
`code`, and the operand lines. `num` is the integer operand of ENABLE and DISABLE, `data` the byte of
`write` or the prior status of `unlisten` and `untalk`, `underAtn` the regime operand of a receive
row. An instruction reads only the operands the table gives it (notes/assumptions/2.md). -/
structure PortWord where
  fmt      : Format
  code     : BitVec 8
  unit     : UnitNo := 0
  chan     : Channel := 0
  data     : Byte := 0
  clkLow   : Bool := false
  dataLow  : Bool := false
  underAtn : Bool := false
  snap     : Snapshot := ⟨false, false, false⟩
  now      : Clock := 0
  num      : Int := 0
deriving DecidableEq, Repr

/-- Why a port word is no instruction. -/
inductive DecodeError where
  /-- The code has a bit above the width of its format's code field. -/
  | codeTooWide (fmt : Format) (code : BitVec 8)
  /-- An ATN event code for which the table has no row: no edge is seen (42_atn_arbitration.md R125). -/
  | noEdge (code : BitVec 8)
  /-- Dispatcher call code 7 (30_encoding.md R85: unused). -/
  | unusedCall (code : BitVec 8)
  /-- Phase codes 25 to 31 (10_state.md R28: not phases). -/
  | notAPhase (code : BitVec 8)
deriving DecidableEq, Repr

/-- `b[3:0]` as a channel number (00_scope.md R12 (e), 30_encoding.md R74). -/
def channelOf (b : Byte) : Channel := ⟨b.toNat % 16, Nat.mod_lt _ (by decide)⟩

/-- `b[7:4]` (00_scope.md R12 (e)). -/
def highNibble (b : Byte) : BitVec 4 := b.extractLsb' 4 4

/-- The primary byte map (30_encoding.md R70, R73): broadcasts first, then the two groups by `p[7:5]`, the
address in `p[4:0]`. -/
def decodePrimary (u : UnitNo) (p : Byte) : Instr :=
  if p = 0x3F#8 then .unlisten u
  else if p = 0x5F#8 then .untalk u
  else if p.extractLsb' 5 3 = 0b001#3 then .listen u (p.extractLsb' 0 5)
  else if p.extractLsb' 5 3 = 0b010#3 then .talk u (p.extractLsb' 0 5)
  else .other u p

/-- The secondary byte map (30_encoding.md R74, R75). -/
def decodeSecondary (u : UnitNo) (s : Byte) : Instr :=
  if highNibble s = 0xF#4 then .openCmd u (channelOf s)
  else if highNibble s = 0xE#4 then .closeCmd u (channelOf s)
  else .dataCmd u (highNibble s) (channelOf s)

/-- The two ATN events, code `fs`: the unit's flag and the snapshot's ATN level (spec/opcode_table.json,
format EV; 42_atn_arbitration.md R125). -/
def decodeEvent (x : StepCtx) (code : BitVec 8) : Except DecodeError Instr :=
  match code.toNat with
  | 0b00 => .ok (.atnFall x)
  | 0b11 => .ok (.atnRise x)
  | 0b01 => .error (.noEdge code)
  | 0b10 => .error (.noEdge code)
  | _    => .error (.codeTooWide .ev code)

/-- The controller operation select; 6 and 7 are treated as NOP (30_encoding.md R84). -/
def decodeControl (num : Int) (now : Clock) (code : BitVec 8) : Except DecodeError Instr :=
  match code.toNat with
  | 0 => .ok .nop
  | 1 => .ok .init
  | 2 => .ok (.enable num)
  | 3 => .ok (.disable num)
  | 4 => .ok .reset
  | 5 => .ok (.exec now)
  | 6 => .ok .nop
  | 7 => .ok .nop
  | _ => .error (.codeTooWide .ctl code)

/-- The fabric operation select (30_encoding.md R86). -/
def decodeFabric (u : UnitNo) (cl dl : Bool) (code : BitVec 8) : Except DecodeError Instr :=
  match code.toNat with
  | 0 => .ok .fread
  | 1 => .ok (.fwrite u cl dl)
  | _ => .error (.codeTooWide .fab code)

/-- The Dispatcher call select (30_encoding.md R85). -/
def decodeDispatcher (u : UnitNo) (c : Channel) (b : Byte) (code : BitVec 8) : Except DecodeError Instr :=
  match code.toNat with
  | 0 => .ok (.dispOpen u c)
  | 1 => .ok (.dispClose u c)
  | 2 => .ok (.dispChannelCommand u c)
  | 3 => .ok (.dispWrite u c b)
  | 4 => .ok (.dispRead u c)
  | 5 => .ok (.dispUnlisten u c b)
  | 6 => .ok (.dispUntalk u c b)
  | 7 => .error (.unusedCall code)
  | _ => .error (.codeTooWide .dsp code)

/-- A phase code that has no row: 25 to 31 are not phases, and the code is five bits wide
(10_state.md R28). -/
def noPhaseRow (fmt : Format) (code : BitVec 8) : DecodeError :=
  if code.toNat < 32 then .notAPhase code else .codeTooWide fmt code

/-- The receive rows by phase code (10_state.md R28, 30_encoding.md R83). Code 0x14 has two rows, told
apart by the regime operand (43_byte_receive.md R152). -/
def decodeReceive (x : StepCtx) (underAtn : Bool) (code : BitVec 8) : Except DecodeError Instr :=
  match code.toNat with
  | 0 => .ok (.rxPre0 x)
  | 1 => .ok (.rxPre1 x)
  | 2 => .ok (.rxReady x)
  | 3 => .ok (.rxEoi x)
  | 4 => .ok (.rxEoiw x)
  | 5 => .ok (.rxBit0 x)
  | 6 => .ok (.rxBitw0 x)
  | 7 => .ok (.rxBit1 x)
  | 8 => .ok (.rxBitw1 x)
  | 9 => .ok (.rxBit2 x)
  | 10 => .ok (.rxBitw2 x)
  | 11 => .ok (.rxBit3 x)
  | 12 => .ok (.rxBitw3 x)
  | 13 => .ok (.rxBit4 x)
  | 14 => .ok (.rxBitw4 x)
  | 15 => .ok (.rxBit5 x)
  | 16 => .ok (.rxBitw5 x)
  | 17 => .ok (.rxBit6 x)
  | 18 => .ok (.rxBitw6 x)
  | 19 => .ok (.rxBit7 x)
  | 20 => .ok (if underAtn then .rxBitw7Atn x else .rxBitw7Listen x)
  | 21 => .ok (.rxDone0 x)
  | 22 => .ok (.rxDone1 x)
  | 23 => .ok (.rxRetry0 x)
  | 24 => .ok (.rxRetry1 x)
  | _ => .error (noPhaseRow .rx code)

/-- The transmit rows by phase code (10_state.md R28, 30_encoding.md R83). -/
def decodeTransmit (x : StepCtx) (code : BitVec 8) : Except DecodeError Instr :=
  match code.toNat with
  | 0 => .ok (.txPre0 x)
  | 1 => .ok (.txPre1 x)
  | 2 => .ok (.txReady x)
  | 3 => .ok (.txEoi x)
  | 4 => .ok (.txEoiw x)
  | 5 => .ok (.txBit0 x)
  | 6 => .ok (.txBitw0 x)
  | 7 => .ok (.txBit1 x)
  | 8 => .ok (.txBitw1 x)
  | 9 => .ok (.txBit2 x)
  | 10 => .ok (.txBitw2 x)
  | 11 => .ok (.txBit3 x)
  | 12 => .ok (.txBitw3 x)
  | 13 => .ok (.txBit4 x)
  | 14 => .ok (.txBitw4 x)
  | 15 => .ok (.txBit5 x)
  | 16 => .ok (.txBitw5 x)
  | 17 => .ok (.txBit6 x)
  | 18 => .ok (.txBitw6 x)
  | 19 => .ok (.txBit7 x)
  | 20 => .ok (.txBitw7 x)
  | 21 => .ok (.txDone0 x)
  | 22 => .ok (.txDone1 x)
  | 23 => .ok (.txRetry0 x)
  | 24 => .ok (.txRetry1 x)
  | _ => .error (noPhaseRow .tx code)

/-- The decoder: total on every port word, rejecting by name. -/
def decode (w : PortWord) : Except DecodeError Instr :=
  match w.fmt with
  | .p   => .ok (decodePrimary w.unit w.code)
  | .s   => .ok (decodeSecondary w.unit w.code)
  | .ev  => decodeEvent ⟨w.unit, w.snap, w.now⟩ w.code
  | .ctl => decodeControl w.num w.now w.code
  | .fab => decodeFabric w.unit w.clkLow w.dataLow w.code
  | .dsp => decodeDispatcher w.unit w.chan w.data w.code
  | .rx  => decodeReceive ⟨w.unit, w.snap, w.now⟩ w.underAtn w.code
  | .tx  => decodeTransmit ⟨w.unit, w.snap, w.now⟩ w.code

/-- The word of a row whose operands are a unit step's: unit, snapshot and clock. -/
def stepWord (fmt : Format) (code : BitVec 8) (x : StepCtx) (underAtn : Bool := false) : PortWord :=
  { fmt := fmt, code := code, unit := x.unit, snap := x.snap, now := x.now, underAtn := underAtn }

/-- The encoder: the word of each instruction, from the same tables. -/
def encode : Instr → PortWord
  | .listen u a               => { fmt := .p, code := 0b001#3 ++ a, unit := u }
  | .unlisten u               => { fmt := .p, code := 0x3F#8, unit := u }
  | .talk u a                 => { fmt := .p, code := 0b010#3 ++ a, unit := u }
  | .untalk u                 => { fmt := .p, code := 0x5F#8, unit := u }
  | .other u p                => { fmt := .p, code := p, unit := u }
  | .openCmd u c              => { fmt := .s, code := 0xF#4 ++ BitVec.ofFin (w := 4) c, unit := u }
  | .closeCmd u c             => { fmt := .s, code := 0xE#4 ++ BitVec.ofFin (w := 4) c, unit := u }
  | .dataCmd u k c            => { fmt := .s, code := k ++ BitVec.ofFin (w := 4) c, unit := u }
  | .atnFall x                => stepWord .ev 0b00#8 x
  | .atnRise x                => stepWord .ev 0b11#8 x
  | .nop                      => { fmt := .ctl, code := 0#8 }
  | .init                     => { fmt := .ctl, code := 1#8 }
  | .enable u                 => { fmt := .ctl, code := 2#8, num := u }
  | .disable u                => { fmt := .ctl, code := 3#8, num := u }
  | .reset                    => { fmt := .ctl, code := 4#8 }
  | .exec now                 => { fmt := .ctl, code := 5#8, now := now }
  | .fread                    => { fmt := .fab, code := 0#8 }
  | .fwrite u cl dl           => { fmt := .fab, code := 1#8, unit := u, clkLow := cl, dataLow := dl }
  | .dispOpen u c             => { fmt := .dsp, code := 0#8, unit := u, chan := c }
  | .dispClose u c            => { fmt := .dsp, code := 1#8, unit := u, chan := c }
  | .dispChannelCommand u c   => { fmt := .dsp, code := 2#8, unit := u, chan := c }
  | .dispWrite u c b          => { fmt := .dsp, code := 3#8, unit := u, chan := c, data := b }
  | .dispRead u c             => { fmt := .dsp, code := 4#8, unit := u, chan := c }
  | .dispUnlisten u c p       => { fmt := .dsp, code := 5#8, unit := u, chan := c, data := p }
  | .dispUntalk u c p         => { fmt := .dsp, code := 6#8, unit := u, chan := c, data := p }
  | .rxPre0 x                 => stepWord .rx 0#8 x
  | .rxPre1 x                 => stepWord .rx 1#8 x
  | .rxReady x                => stepWord .rx 2#8 x
  | .rxEoi x                  => stepWord .rx 3#8 x
  | .rxEoiw x                 => stepWord .rx 4#8 x
  | .rxBit0 x                 => stepWord .rx 5#8 x
  | .rxBitw0 x                => stepWord .rx 6#8 x
  | .rxBit1 x                 => stepWord .rx 7#8 x
  | .rxBitw1 x                => stepWord .rx 8#8 x
  | .rxBit2 x                 => stepWord .rx 9#8 x
  | .rxBitw2 x                => stepWord .rx 10#8 x
  | .rxBit3 x                 => stepWord .rx 11#8 x
  | .rxBitw3 x                => stepWord .rx 12#8 x
  | .rxBit4 x                 => stepWord .rx 13#8 x
  | .rxBitw4 x                => stepWord .rx 14#8 x
  | .rxBit5 x                 => stepWord .rx 15#8 x
  | .rxBitw5 x                => stepWord .rx 16#8 x
  | .rxBit6 x                 => stepWord .rx 17#8 x
  | .rxBitw6 x                => stepWord .rx 18#8 x
  | .rxBit7 x                 => stepWord .rx 19#8 x
  | .rxBitw7Atn x              => stepWord .rx 20#8 x true
  | .rxBitw7Listen x           => stepWord .rx 20#8 x
  | .rxDone0 x                => stepWord .rx 21#8 x
  | .rxDone1 x                => stepWord .rx 22#8 x
  | .rxRetry0 x               => stepWord .rx 23#8 x
  | .rxRetry1 x               => stepWord .rx 24#8 x
  | .txPre0 x                 => stepWord .tx 0#8 x
  | .txPre1 x                 => stepWord .tx 1#8 x
  | .txReady x                => stepWord .tx 2#8 x
  | .txEoi x                  => stepWord .tx 3#8 x
  | .txEoiw x                 => stepWord .tx 4#8 x
  | .txBit0 x                 => stepWord .tx 5#8 x
  | .txBitw0 x                => stepWord .tx 6#8 x
  | .txBit1 x                 => stepWord .tx 7#8 x
  | .txBitw1 x                => stepWord .tx 8#8 x
  | .txBit2 x                 => stepWord .tx 9#8 x
  | .txBitw2 x                => stepWord .tx 10#8 x
  | .txBit3 x                 => stepWord .tx 11#8 x
  | .txBitw3 x                => stepWord .tx 12#8 x
  | .txBit4 x                 => stepWord .tx 13#8 x
  | .txBitw4 x                => stepWord .tx 14#8 x
  | .txBit5 x                 => stepWord .tx 15#8 x
  | .txBitw5 x                => stepWord .tx 16#8 x
  | .txBit6 x                 => stepWord .tx 17#8 x
  | .txBitw6 x                => stepWord .tx 18#8 x
  | .txBit7 x                 => stepWord .tx 19#8 x
  | .txBitw7 x                => stepWord .tx 20#8 x
  | .txDone0 x                => stepWord .tx 21#8 x
  | .txDone1 x                => stepWord .tx 22#8 x
  | .txRetry0 x               => stepWord .tx 23#8 x
  | .txRetry1 x               => stepWord .tx 24#8 x

/-- The format the model gives to a bare table word, which carries no format bits: the controller's
operation port for the operation codes, then the receive phase codes, then the bytes of the bus as the
primary and secondary maps name them. DESIGN CHOICE (notes/assumptions/3.md): the table's codes are
numbered per format, so one word can be a row of several formats. -/
def tableFormat (w : Nat) : Format :=
  if w < 6 then .ctl
  else if w < 25 then .rx
  else if w < 0x60 then .p
  else .s

/-- The port word of a bare table word: its bits in `code`, every operand line 0. -/
def tableWord (w : Nat) : PortWord := { fmt := tableFormat w, code := BitVec.ofNat 8 w }

/-- The instruction the decoder reads from a table word of `nbits` bits (no row of the table is wider than
one byte). -/
def decodeTableWord (nbits w : Nat) : Option Instr :=
  if w < 256 ∧ w < 2 ^ nbits then
    match decode (tableWord w) with
    | .ok i    => some i
    | .error _ => none
  else none

end Sys2Proof
end

