-- ==== Sys2Proof/Machine/State.lean ====
section
/-! DEFINITION. The state of the block (10_state.md R20), its inputs and outputs, the state right after
power-on (10_state.md R38, 70_reset_and_hazards.md R235), and the reasons a step can stop. -/

namespace Sys2Proof.Machine

/-- The eleven phase kinds (10_state.md R28); BIT and BITW are used with the cursor. What a kind means
depends on the active regime (R29). -/
inductive Phase where
  | pre0 | pre1 | ready | eoi | eoiw | bit | bitw | done0 | done1 | retry0 | retry1
deriving DecidableEq, Repr, Inhabited

/-- One slot of the fabric: the unit's two drive bits, `true` = the unit drives the line low
(10_state.md R33). -/
structure Slot where
  clkLow  : Bool
  dataLow : Bool
deriving DecidableEq, Repr, Inhabited

/-- The bus master's three drive bits, an input of the block (10_state.md R34). -/
structure MasterDrive where
  atnLow  : Bool
  clkLow  : Bool
  dataLow : Bool
deriving DecidableEq, Repr, Inhabited

/-- The DeviceState of one unit (10_state.md R21 to R32). -/
structure DeviceState where
  /-- set by `enable`, cleared by `disable` (R21) -/
  enabled   : Bool
  /-- "under-ATN": the last ATN level the unit acted on was low (R22) -/
  atn       : Bool
  /-- the unit is a listener, active or pending (R22) -/
  listening : Bool
  /-- the unit is a talker, active or pending (R22) -/
  talking   : Bool
  /-- the control state (R28, R29) -/
  phase     : Phase
  /-- the bit cursor, 0..7 (R25) -/
  cursor    : Fin 8
  /-- the bit-addressed shift register (R24) -/
  byte      : Byte
  /-- first byte captured under ATN (R26) -/
  primary   : Byte
  /-- second byte captured under ATN (R26) -/
  secondary : Byte
  /-- `secondary` at the last ATN falling edge (R26) -/
  secPrev   : Byte
  /-- how many address bytes have been captured: 0, 1 or 2 (R27) -/
  addrCount : Fin 3
  /-- the channel status table (R30) -/
  status    : Vector Byte 16
  /-- the clock at the last phase transition (R31, R32) -/
  stamp     : Clock
deriving DecidableEq, Repr

/-- Every field at its power-on value (10_state.md R38, first column). -/
def DeviceState.powerOn : DeviceState where
  enabled   := false
  atn       := false
  listening := false
  talking   := false
  phase     := .pre0
  cursor    := 0
  byte      := 0#8
  primary   := 0#8
  secondary := 0#8
  secPrev   := 0#8
  addrCount := 0
  status    := Vector.replicate 16 0#8
  stamp     := 0

/-- The result of `enable` (41_device_controller.md R113). -/
inductive EnableResult where
  | ok | errRange | errAlready
deriving DecidableEq, Repr, Inhabited

/-- One operation waiting at the operation port, with the bus master's drive of the moment it is issued
(41_device_controller.md R110: `m` may change between any two operations). -/
structure PortEntry where
  m    : MasterDrive
  word : PortWord
deriving DecidableEq, Repr

/-- The block (10_state.md R20), with its parameter record, its inputs and its outputs. -/
structure State where
  /-- PARAMETER: the configuration record, fixed for the life of the instance (00_scope.md R6). -/
  cfg          : Config
  /-- the controller's lifecycle bit (10_state.md R35) -/
  initialized  : Bool
  /-- the DeviceStates, by unit number; only the numbers in the configuration's range are units -/
  devs         : Vector DeviceState 31
  /-- the fabric slots, by unit number -/
  slots        : Vector Slot 31
  /-- INPUT: the bus master's drive bits (10_state.md R34). -/
  m            : MasterDrive
  /-- INPUT: the operations to come, the next one first (41_device_controller.md R110). -/
  port         : List PortEntry
  /-- INPUT: the Dispatcher's answers already given, the next one first (41_device_controller.md R110). -/
  answers      : List Answer
  /-- OUTPUT: the Dispatcher calls made, the newest first (45_dispatcher.md R190). -/
  calls        : List CallRecord
  /-- OUTPUT: the last result of `enable` (41_device_controller.md R113). -/
  enableResult : Option EnableResult
  /-- OUTPUT: the last result of a fabric `read` issued at the port (40_bus_fabric.md R100). -/
  readout      : Snapshot
  /-- THE MODEL'S OWN: the clock of the previous `exec`, kept outside the block's state to state the
  precondition of 70_reset_and_hazards.md R245 (93_implementation_defined.md U1). -/
  lastNow      : Option Clock
deriving DecidableEq, Repr

/-- Right after power-on (10_state.md R38, 70_reset_and_hazards.md R235). The parameter record, the inputs
and the outputs have no reset value in the spec: DESIGN CHOICE, notes/assumptions 1, 2, 7, 8, 9, 10
and 13. -/
def State.reset : State where
  cfg          := Config.suggested 1000000
  initialized  := false
  devs         := Vector.replicate 31 DeviceState.powerOn
  slots        := Vector.replicate 31 ⟨false, false⟩
  m            := ⟨false, false, false⟩
  port         := []
  answers      := []
  calls        := []
  enableResult := none
  readout      := ⟨true, true, true⟩
  lastNow      := none

/-- The block has no fault: every error condition is an ordinary transition (60_exceptions.md R205,
93_implementation_defined.md section 1). The type has no constructor, so no step can fault. -/
inductive Fault
deriving DecidableEq, Repr

/-- Why a step has no next state. -/
inductive Refusal where
  /-- The instruction has no meaning in the model. No arm of `exec` raises it. SAFE. -/
  | notModelled (mnemonic : String)
  /-- Raised by `exec(now)`, and by a row that only occurs inside it, when `now` is smaller than the clock of
  the previous `exec`: a broken precondition for which the spec gives no behaviour
  (70_reset_and_hazards.md R245, 93_implementation_defined.md U1 "refuse"). SAFE. -/
  | clockDecreased (previous now : Clock)
  /-- Raised by `step` when the code at the port belongs to no row of the table: there is no instruction
  (93_implementation_defined.md U15, notes/assumptions/15.md). SAFE. -/
  | noInstruction (e : DecodeError)
deriving DecidableEq, Repr

end Sys2Proof.Machine
end

