-- ==== Sys2Proof/Machine/Operands.lean ====
section
/-! DEFINITION. Operand forms: single bits of the shift register, the classes of primary, secondary and
status bytes, and the unit operand of `enable` and `disable`. -/

namespace Sys2Proof.Machine

/-- `b[n]` (00_scope.md R9). -/
def byteBit (b : Byte) (n : Fin 8) : Bool := b.getLsbD n

/-- `b[n] <- v`, the other bits of `b` unchanged (10_state.md R24, 43_byte_receive.md R151). -/
def setByteBit (b : Byte) (n : Fin 8) (v : Bool) : Byte :=
  if v then b ||| BitVec.twoPow 8 n else b &&& ~~~ BitVec.twoPow 8 n

/-- The classes of a primary byte as one unit sees it (30_encoding.md R73). -/
inductive PClass where
  | listenMe | talkMe | unlisten | untalk | other
deriving DecidableEq, Repr

/-- `PClass(p, u)` (30_encoding.md R73). The unit compares the whole byte with `0x20 + u` and `0x40 + u`, in
unbounded integers (R71, 00_scope.md R12 (d)). -/
def pClass (p : Byte) (u : UnitNo) : PClass :=
  if p.toNat = 0x20 + u.val then .listenMe
  else if p.toNat = 0x40 + u.val then .talkMe
  else if p = 0x3F#8 then .unlisten
  else if p = 0x5F#8 then .untalk
  else .other

/-- The classes of a secondary byte (30_encoding.md R75). -/
inductive SClass where
  | openClass | closeClass | channelClass
deriving DecidableEq, Repr

/-- `SClass(s)` (30_encoding.md R75). -/
def sClass (s : Byte) : SClass :=
  if highNibble s = 0xF#4 then .openClass
  else if highNibble s = 0xE#4 then .closeClass
  else .channelClass

/-- The Dispatcher call that a secondary byte selects for unit `u` (42_atn_arbitration.md R133). -/
def secondaryCall (u : UnitNo) (s : Byte) : DispCall :=
  match sClass s with
  | .openClass    => .openCall u (channelOf s)
  | .closeClass   => .closeCall u (channelOf s)
  | .channelClass => .channelCommand u (channelOf s)

/-- The classes of a status byte (30_encoding.md R81). -/
inductive StClass where
  | ok | eoi | error
deriving DecidableEq, Repr

/-- `StClass(st)` (30_encoding.md R81). -/
def stClass (cfg : Config) (st : Byte) : StClass :=
  if st = 0#8 then .ok else if st = cfg.statusEoi then .eoi else .error

/-- The unit numbers that a LISTEN or TALK byte can name, ascending. -/
def allUnits : List UnitNo :=
  [0, 1, 2, 3, 4, 5, 6, 7, 8, 9, 10, 11, 12, 13, 14, 15, 16, 17, 18, 19, 20, 21, 22, 23, 24, 25, 26, 27,
   28, 29, 30]

/-- `u` is in `UNIT_MIN..UNIT_MAX` (00_scope.md R6). -/
def inRange (cfg : Config) (u : UnitNo) : Bool := decide (cfg.unitMin ≤ u) && decide (u ≤ cfg.unitMax)

/-- The units of the block, ascending (20_memory.md R61). -/
def unitsOf (cfg : Config) : List UnitNo := allUnits.filter (inRange cfg)

/-- The unit that an integer operand of `enable` or `disable` names, if it is in range
(41_device_controller.md R112, R114). -/
def unitOperand (cfg : Config) (i : Int) : Option UnitNo :=
  if h : (cfg.unitMin.val : Int) ≤ i ∧ i ≤ (cfg.unitMax.val : Int) then
    some ⟨i.toNat, by have := cfg.unitMax.isLt; omega⟩
  else none

end Sys2Proof.Machine
end

