-- ==== Sys2Proof/Machine/Flags.lean ====
section
/-! DEFINITION. What the regime flags say: the active regime, the ATN edge detector, the flattened phase
code, and which row of the table a unit's step selects. -/

namespace Sys2Proof.Machine

/-- The four regimes (10_state.md R23). -/
inductive Regime where
  | idle | underAtn | listening | talking
deriving DecidableEq, Repr

/-- The active regime (10_state.md R23; 42_atn_arbitration.md R125; notes/assumptions/19.md). -/
def DeviceState.regime (d : DeviceState) : Regime :=
  if d.atn then .underAtn
  else if d.listening then .listening
  else if d.talking then .talking
  else .idle

/-- The unit sees an ATN falling edge in this snapshot (42_atn_arbitration.md R125). -/
def DeviceState.seesFall (d : DeviceState) (S : Snapshot) : Bool := !d.atn && !S.atn

/-- The unit sees an ATN rising edge in this snapshot (42_atn_arbitration.md R125). -/
def DeviceState.seesRise (d : DeviceState) (S : Snapshot) : Bool := d.atn && S.atn

/-- The 5-bit code of the flattened phase (10_state.md R28). -/
def phaseCode (p : Phase) (n : Fin 8) : Nat :=
  match p with
  | .pre0   => 0
  | .pre1   => 1
  | .ready  => 2
  | .eoi    => 3
  | .eoiw   => 4
  | .bit    => 5 + 2 * n.val
  | .bitw   => 6 + 2 * n.val
  | .done0  => 21
  | .done1  => 22
  | .retry0 => 23
  | .retry1 => 24

/-- The unit takes a receive row in this snapshot: no edge, and under ATN or listening
(42_atn_arbitration.md R125). -/
def DeviceState.receives (d : DeviceState) (S : Snapshot) : Bool :=
  !d.seesFall S && !d.seesRise S && (d.regime == .underAtn || d.regime == .listening)

/-- The unit takes a transmit row in this snapshot: no edge, and talking (42_atn_arbitration.md R125). -/
def DeviceState.transmits (d : DeviceState) (S : Snapshot) : Bool :=
  !d.seesFall S && !d.seesRise S && d.regime == .talking

/-- The receive row with phase code `k` is the one the unit's step selects (43_byte_receive.md R145). -/
def DeviceState.selectsRx (d : DeviceState) (S : Snapshot) (k : Nat) : Bool :=
  d.receives S && phaseCode d.phase d.cursor == k

/-- The transmit row with phase code `k` is the one the unit's step selects (44_byte_transmit.md R163). -/
def DeviceState.selectsTx (d : DeviceState) (S : Snapshot) (k : Nat) : Bool :=
  d.transmits S && phaseCode d.phase d.cursor == k

/-- The primary byte `p` is the command the unit has captured and acts on when ATN rises
(42_atn_arbitration.md R127). -/
def DeviceState.captured (d : DeviceState) (p : Byte) : Bool :=
  d.atn && decide (1 ≤ d.addrCount.val) && d.primary == p

end Sys2Proof.Machine
end

