-- ==== Sys2Proof/Machine/Ops.lean ====
section
/-! DEFINITION. The named operations over the block's state: one unit's DeviceState and slot, the fabric's
two operations, the phase assignment, the Dispatcher call with its status latch, the command actions,
and the ATN event: its entry (the falling edge) and its return (the rising edge). -/

namespace Sys2Proof.Machine

/-- `dev[u]` (00_scope.md R11). -/
def State.dev (s : State) (u : UnitNo) : DeviceState := s.devs[u]

/-- `slot[u]` (00_scope.md R11). -/
def State.slot (s : State) (u : UnitNo) : Slot := s.slots[u]

/-- Assign fields of `dev[u]`. -/
def State.updDev (s : State) (u : UnitNo) (f : DeviceState → DeviceState) : State :=
  { s with devs := s.devs.set u (f (s.dev u)) }

/-- `u` is a unit of the block and is enabled: only such a unit is stepped (41_device_controller.md R116). -/
def State.active (s : State) (u : UnitNo) : Bool := inRange s.cfg u && (s.dev u).enabled

/-- `FabricWrite(u, cl, dl)`: both bits of one slot at once (40_bus_fabric.md R101). -/
def State.fabricWrite (s : State) (u : UnitNo) (cl dl : Bool) : State :=
  { s with slots := s.slots.set u ⟨cl, dl⟩ }

/-- `FabricRead()`: a line is low iff the master or any unit's slot drives it low; ATN is the master's
alone (40_bus_fabric.md R100, R102, R103). -/
def State.fabricRead (s : State) : Snapshot where
  atn  := !s.m.atnLow
  clk  := !(s.m.clkLow || (unitsOf s.cfg).any fun u => (s.slot u).clkLow)
  data := !(s.m.dataLow || (unitsOf s.cfg).any fun u => (s.slot u).dataLow)

/-- `SetPhase(P)`: `phase <- P; stamp <- now` (10_state.md R32). -/
def State.setPhase (s : State) (u : UnitNo) (p : Phase) (now : Clock) : State :=
  s.updDev u fun d => { d with phase := p, stamp := now }

/-- The time since the unit entered its phase (00_scope.md R11). -/
def State.elapsed (s : State) (u : UnitNo) (now : Clock) : Nat :=
  Sys2Proof.Machine.elapsed s.cfg.clockW now (s.dev u).stamp

/-- The clock of the previous `exec`, if `now` is smaller than it: the broken precondition of
70_reset_and_hazards.md R245. With a clock of finite width a smaller value is a wrap-around
(60_exceptions.md R220), and nothing is refused. -/
def State.clockBack (s : State) (now : Clock) : Option Clock :=
  match s.cfg.clockW, s.lastNow with
  | none, some p => if now < p then some p else none
  | _, _         => none

/-! ### The Dispatcher call -/

/-- What the Dispatcher answers to a call made now: the environment's next given answer, else the opaque
oracle's (45_dispatcher.md R190, R199; notes/assumptions/7.md). -/
def State.answerTo (s : State) (call : DispCall) : Answer :=
  match s.answers with
  | a :: _ => a
  | []     => Config.dispatcher s.calls call (s.dev call.unit).status

/-- A Dispatcher call and its status latch (45_dispatcher.md R190, R198): the call is recorded with the
status table as it stands before the latch (R199), and the returned status is written into
`dev[u].status[c]`, no other entry. -/
def State.dispatch (s : State) (call : DispCall) : State :=
  { s.updDev call.unit fun d => { d with status := d.status.set call.channel (s.answerTo call).status } with
    answers := s.answers.tail
    calls   := ⟨call, (s.dev call.unit).status, s.answerTo call⟩ :: s.calls }

/-- `status[c]` of unit `u`. -/
def State.statusOf (s : State) (u : UnitNo) (c : Channel) : Byte := (s.dev u).status[c]

/-- A Dispatcher call issued by itself at the port: made for a unit of the block only
(notes/assumptions/6.md), and for every one of them, also a disabled or idle one, whose table it then reads and
latches. The spec makes calls in the step of an enabled unit only (R191 to R197, R200), so this is the model's
choice (DESIGN CHOICE, notes/assumptions/20.md). The call's arguments are the row's operand lines as they stand,
also where R191 to R197 would fix other ones from the unit's own state, and the row is the call and its latch only
(DESIGN CHOICE, notes/assumptions/22.md). -/
def callAtPort (call : DispCall) (s : State) : State :=
  if inRange s.cfg call.unit then s.dispatch call else s

/-! ### The commands (42_atn_arbitration.md, section 4) -/

/-- `DispatchSecondary(u)` (R133): nothing when no secondary byte was captured. -/
def dispatchSecondary (u : UnitNo) (s : State) : State :=
  if (s.dev u).addrCount = 2 then s.dispatch (secondaryCall u (s.dev u).secondary) else s

/-- `CmdListen(u)` (R131). -/
def cmdListen (u : UnitNo) (s : State) : State :=
  dispatchSecondary u (s.updDev u fun d => { d with listening := true, talking := false })

/-- `CmdTalk(u)` (R132). -/
def cmdTalk (u : UnitNo) (s : State) : State :=
  dispatchSecondary u (s.updDev u fun d => { d with talking := true, listening := false })

/-- `CmdNone(u)` (R136): a pending regime keeps its channel. -/
def cmdNone (u : UnitNo) (s : State) : State :=
  if (s.dev u).listening || (s.dev u).talking then
    s.updDev u fun d => { d with secondary := d.secPrev }
  else s

/-- UNLISTEN as unit `u` acts on it: `CmdUnlisten(u)` (R134) when it is listening, with the latched status of
the previously active channel; otherwise `CmdNone(u)` (R127). -/
def cmdUnlisten (u : UnitNo) (s : State) : State :=
  let c := channelOf (s.dev u).secPrev
  if (s.dev u).listening then
    (s.updDev u fun d => { d with listening := false }).dispatch (.unlisten u c (s.statusOf u c))
  else cmdNone u s

/-- UNTALK as unit `u` acts on it: `CmdUntalk(u)` (R135) when it is talking; otherwise `CmdNone(u)` (R127). -/
def cmdUntalk (u : UnitNo) (s : State) : State :=
  let c := channelOf (s.dev u).secPrev
  if (s.dev u).talking then
    (s.updDev u fun d => { d with talking := false }).dispatch (.untalk u c (s.statusOf u c))
  else cmdNone u s

/-- The action of the captured primary byte (R127). -/
def primaryCommand (u : UnitNo) (s : State) : State :=
  if 1 ≤ (s.dev u).addrCount.val then
    match pClass (s.dev u).primary u with
    | .listenMe => cmdListen u s
    | .talkMe   => cmdTalk u s
    | .unlisten => cmdUnlisten u s
    | .untalk   => cmdUntalk u s
    | .other    => cmdNone u s
  else cmdNone u s

/-- `RegimeEntry(u, now)` (R138): a listener holds DATA low until it is ready; everyone else releases both
lines. -/
def regimeEntry (u : UnitNo) (now : Clock) (s : State) : State :=
  (if (s.dev u).listening then s.fabricWrite u false true else s.fabricWrite u false false).setPhase u .pre0 now

/-! ### The ATN event: entry and return (60_exceptions.md R216, R217) -/

/-- `AtnFall(u, now)` (42_atn_arbitration.md R126): the previous secondary address is saved, the address
bytes are cleared, the handshake restarts, and the unit asserts presence on DATA. -/
def atnEntry (u : UnitNo) (now : Clock) (s : State) : State :=
  ((s.updDev u fun d =>
      { d with atn := true, secPrev := d.secondary, primary := 0#8, secondary := 0#8, addrCount := 0 }).setPhase
    u .pre0 now).fabricWrite u false true

/-- `AtnRise(u, now)` (42_atn_arbitration.md R127): leave under-ATN, act on the captured bytes, enter the
regime that is now active. -/
def atnReturn (u : UnitNo) (now : Clock) (s : State) : State :=
  regimeEntry u now (primaryCommand u (s.updDev u fun d => { d with atn := false }))

/-! ### A table row run by itself -/

/-- A row that occurs only inside `exec(now)`, run by itself at the port: it acts when it is the row the
unit's step selects and otherwise changes nothing; the clock precondition of `exec` holds for it too
(notes/assumptions/4.md, 10.md). Its own clock is not a previous clock: `lastNow` stays that of the last `exec`, so
a later operation may have a clock below the stamp the row wrote and then sees no time elapsed (DESIGN CHOICE,
notes/assumptions/21.md). -/
def rowStep (x : StepCtx) (selected : Bool) (body : State → State) (s : State) :
    Host.Outcome State Fault Refusal :=
  match s.clockBack x.now with
  | some p => .refused (.clockDecreased p x.now)
  | none   => .next (if s.active x.unit && selected then body s else s)

end Sys2Proof.Machine
end

