-- ==== Sys2Proof/Machine/Commands.lean ====
section
/-! DEFINITION. The bus commands and the two ATN edges as instructions (42_atn_arbitration.md). A command row
is the action a unit takes at the rising edge on the byte it captured; run by itself at the port it acts
on an enabled unit that has captured that very byte under ATN (notes/assumptions/5.md). -/

namespace Sys2Proof.Machine

/-- Unit `u` is enabled, under ATN, and has captured the primary byte `p`. -/
def State.hasPrimary (s : State) (u : UnitNo) (p : Byte) : Bool := s.active u && (s.dev u).captured p

/-- Unit `u` is enabled, under ATN, has captured its own LISTEN or TALK and then the secondary byte `b`
(R133). -/
def State.hasSecondary (s : State) (u : UnitNo) (b : Byte) : Bool :=
  s.active u && (s.dev u).atn && decide ((s.dev u).addrCount = 2) && (s.dev u).secondary == b &&
    (pClass (s.dev u).primary u == .listenMe || pClass (s.dev u).primary u == .talkMe)

/-- LISTEN a (R131); for another address it is no command for this unit (R136). -/
def execListen (u : UnitNo) (a : BitVec 5) (s : State) : Host.Outcome State Fault Refusal :=
  .next (if s.hasPrimary u (0b001#3 ++ a) then
    if a.toNat = u.val then cmdListen u s else cmdNone u s
  else s)

/-- UNLISTEN (R134; R136 when the unit is not listening). -/
def execUnlisten (u : UnitNo) (s : State) : Host.Outcome State Fault Refusal :=
  .next (if s.hasPrimary u 0x3F#8 then cmdUnlisten u s else s)

/-- TALK a (R132); for another address it is no command for this unit (R136). -/
def execTalk (u : UnitNo) (a : BitVec 5) (s : State) : Host.Outcome State Fault Refusal :=
  .next (if s.hasPrimary u (0b010#3 ++ a) then
    if a.toNat = u.val then cmdTalk u s else cmdNone u s
  else s)

/-- UNTALK (R135; R136 when the unit is not talking). -/
def execUntalk (u : UnitNo) (s : State) : Host.Outcome State Fault Refusal :=
  .next (if s.hasPrimary u 0x5F#8 then cmdUntalk u s else s)

/-- Any other primary byte: no command (R136). -/
def execOther (u : UnitNo) (p : Byte) (s : State) : Host.Outcome State Fault Refusal :=
  .next (if s.hasPrimary u p then cmdNone u s else s)

/-- OPEN c (R133). -/
def execOpenCmd (u : UnitNo) (c : Channel) (s : State) : Host.Outcome State Fault Refusal :=
  .next (if s.hasSecondary u (0xF#4 ++ BitVec.ofFin (w := 4) c) then s.dispatch (.openCall u c) else s)

/-- CLOSE c (R133). -/
def execCloseCmd (u : UnitNo) (c : Channel) (s : State) : Host.Outcome State Fault Refusal :=
  .next (if s.hasSecondary u (0xE#4 ++ BitVec.ofFin (w := 4) c) then s.dispatch (.closeCall u c) else s)

/-- A data-channel command, every other high nibble `k` (R133, 30_encoding.md R75). -/
def execDataCmd (u : UnitNo) (k : BitVec 4) (c : Channel) (s : State) : Host.Outcome State Fault Refusal :=
  .next (if s.hasSecondary u (k ++ BitVec.ofFin (w := 4) c) then s.dispatch (.channelCommand u c) else s)

/-- The ATN falling edge (R126), selected by a clear `atn` flag and a low line (R125). -/
def execAtnFall (x : StepCtx) (s : State) : Host.Outcome State Fault Refusal :=
  rowStep x ((s.dev x.unit).seesFall x.snap) (atnEntry x.unit x.now) s

/-- The ATN rising edge (R127), selected by a set `atn` flag and a high line (R125). -/
def execAtnRise (x : StepCtx) (s : State) : Host.Outcome State Fault Refusal :=
  rowStep x ((s.dev x.unit).seesRise x.snap) (atnReturn x.unit x.now) s

end Sys2Proof.Machine
end

