-- ==== Sys2Proof/Machine/Receive.lean ====
section
/-! DEFINITION. The byte-receive sub-machine (43_byte_receive.md): one operation per phase rule, then one
meaning per receive row of the table. While receiving, every fabric write has CLK released. -/

namespace Sys2Proof.Machine

/-- PRE0, settle (R146). -/
def rxPre0 (u : UnitNo) (now : Clock) (s : State) : State :=
  if s.cfg.tRxSettle ≤ s.elapsed u now then s.setPhase u .pre1 now else s

/-- PRE1: on CLK high, release DATA, ready for data (R147). -/
def rxPre1 (u : UnitNo) (S : Snapshot) (now : Clock) (s : State) : State :=
  if S.clk then (s.fabricWrite u false false).setPhase u .ready now else s

/-- READY: start of frame, or EOI after the ready timeout, never under ATN; CLK low is tested first
(R148). -/
def rxReady (u : UnitNo) (S : Snapshot) (now : Clock) (underAtn : Bool) (s : State) : State :=
  if !S.clk then (s.updDev u fun d => { d with cursor := 0 }).setPhase u .bit now
  else if !underAtn && decide (s.cfg.tEoi ≤ s.elapsed u now) then
    (s.fabricWrite u false true).setPhase u .eoi now
  else s

/-- EOI: the end of the acknowledge pulse (R149). -/
def rxEoi (u : UnitNo) (now : Clock) (s : State) : State :=
  if s.cfg.tEoiAck ≤ s.elapsed u now then (s.fabricWrite u false false).setPhase u .eoiw now else s

/-- EOIW: wait for the final byte's first bit (R150). -/
def rxEoiw (u : UnitNo) (S : Snapshot) (now : Clock) (s : State) : State :=
  if !S.clk then (s.updDev u fun d => { d with cursor := 0 }).setPhase u .bit now else s

/-- BIT with cursor `n`: on CLK high, sample DATA of the same snapshot into `byte[n]` (R151). -/
def rxSample (n : Fin 8) (u : UnitNo) (S : Snapshot) (now : Clock) (s : State) : State :=
  if S.clk then (s.updDev u fun d => { d with byte := setByteBit d.byte n S.data }).setPhase u .bitw now
  else s

/-- BITW with cursor `n` below 7: on CLK low, the next bit (R152). -/
def rxAdvance (n : Fin 8) (u : UnitNo) (S : Snapshot) (now : Clock) (s : State) : State :=
  if !S.clk then (s.updDev u fun d => { d with cursor := n + 1 }).setPhase u .bit now else s

/-- `ByteDoneAtn(u, now)` (R153): capture the byte, then acknowledge iff the captured primary is this unit's
LISTEN or TALK or a broadcast. -/
def byteDoneAtn (u : UnitNo) (now : Clock) (s : State) : State :=
  let s1 := s.updDev u fun d =>
    if d.addrCount = 0 then { d with primary := d.byte, addrCount := 1 }
    else if d.addrCount = 1 then { d with secondary := d.byte, addrCount := 2 }
    else d
  if pClass (s1.dev u).primary u != .other then (s1.fabricWrite u false true).setPhase u .pre1 now
  else s1.setPhase u .done1 now

/-- `ByteDoneListen(u, now)` (R154): deliver the byte, latch the status, acknowledge iff it is zero. -/
def byteDoneListen (u : UnitNo) (now : Clock) (s : State) : State :=
  let call := DispCall.write u (channelOf (s.dev u).secondary) (s.dev u).byte
  if (s.answerTo call).status = 0#8 then ((s.dispatch call).fabricWrite u false true).setPhase u .pre1 now
  else (s.dispatch call).setPhase u .done1 now

/-- BITW with cursor 7 under ATN: on CLK low the address byte is complete (R152, R153). -/
def rxCompleteAtn (u : UnitNo) (S : Snapshot) (now : Clock) (s : State) : State :=
  if !S.clk then byteDoneAtn u now s else s

/-- BITW with cursor 7 while listening: on CLK low the data byte is complete (R152, R154). -/
def rxCompleteListen (u : UnitNo) (S : Snapshot) (now : Clock) (s : State) : State :=
  if !S.clk then byteDoneListen u now s else s

/-- DONE1, and the phases that do not occur while receiving: nothing (R155, R156). -/
def rxTerminal (s : State) : State := s

/-- `RxStep(u, S, now, under_atn)`: the branch of the unit's phase (R145, R152). -/
def rxStep (u : UnitNo) (S : Snapshot) (now : Clock) (underAtn : Bool) (s : State) : State :=
  match (s.dev u).phase with
  | .pre0   => rxPre0 u now s
  | .pre1   => rxPre1 u S now s
  | .ready  => rxReady u S now underAtn s
  | .eoi    => rxEoi u now s
  | .eoiw   => rxEoiw u S now s
  | .bit    => rxSample (s.dev u).cursor u S now s
  | .bitw   =>
    if (s.dev u).cursor.val < 7 then rxAdvance (s.dev u).cursor u S now s
    else if underAtn then rxCompleteAtn u S now s
    else rxCompleteListen u S now s
  | .done0  => rxTerminal s
  | .done1  => rxTerminal s
  | .retry0 => rxTerminal s
  | .retry1 => rxTerminal s

/-! ### The rows. A row acts when it is the one the unit's step selects. -/

/-- A receive row with phase code `k`, run by itself (43_byte_receive.md R145; notes/assumptions/4.md). -/
def rxRow (k : Nat) (x : StepCtx) (body : State → State) (s : State) : Host.Outcome State Fault Refusal :=
  rowStep x ((s.dev x.unit).selectsRx x.snap k) body s

/-- RX.PRE0 (R146). -/
def execRxPre0 (x : StepCtx) (s : State) : Host.Outcome State Fault Refusal :=
  rxRow 0 x (rxPre0 x.unit x.now) s

/-- RX.PRE1 (R147). -/
def execRxPre1 (x : StepCtx) (s : State) : Host.Outcome State Fault Refusal :=
  rxRow 1 x (rxPre1 x.unit x.snap x.now) s

/-- RX.READY (R148); the regime is the unit's. -/
def execRxReady (x : StepCtx) (s : State) : Host.Outcome State Fault Refusal :=
  rxRow 2 x (rxReady x.unit x.snap x.now (s.dev x.unit).atn) s

/-- RX.EOI (R149). -/
def execRxEoi (x : StepCtx) (s : State) : Host.Outcome State Fault Refusal :=
  rxRow 3 x (rxEoi x.unit x.now) s

/-- RX.EOIW (R150). -/
def execRxEoiw (x : StepCtx) (s : State) : Host.Outcome State Fault Refusal :=
  rxRow 4 x (rxEoiw x.unit x.snap x.now) s

/-- RX.BIT0 (R151). -/
def execRxBit0 (x : StepCtx) (s : State) : Host.Outcome State Fault Refusal :=
  rxRow 5 x (rxSample 0 x.unit x.snap x.now) s

/-- RX.BITW0 (R152). -/
def execRxBitw0 (x : StepCtx) (s : State) : Host.Outcome State Fault Refusal :=
  rxRow 6 x (rxAdvance 0 x.unit x.snap x.now) s

/-- RX.BIT1 (R151). -/
def execRxBit1 (x : StepCtx) (s : State) : Host.Outcome State Fault Refusal :=
  rxRow 7 x (rxSample 1 x.unit x.snap x.now) s

/-- RX.BITW1 (R152). -/
def execRxBitw1 (x : StepCtx) (s : State) : Host.Outcome State Fault Refusal :=
  rxRow 8 x (rxAdvance 1 x.unit x.snap x.now) s

/-- RX.BIT2 (R151). -/
def execRxBit2 (x : StepCtx) (s : State) : Host.Outcome State Fault Refusal :=
  rxRow 9 x (rxSample 2 x.unit x.snap x.now) s

/-- RX.BITW2 (R152). -/
def execRxBitw2 (x : StepCtx) (s : State) : Host.Outcome State Fault Refusal :=
  rxRow 10 x (rxAdvance 2 x.unit x.snap x.now) s

/-- RX.BIT3 (R151). -/
def execRxBit3 (x : StepCtx) (s : State) : Host.Outcome State Fault Refusal :=
  rxRow 11 x (rxSample 3 x.unit x.snap x.now) s

/-- RX.BITW3 (R152). -/
def execRxBitw3 (x : StepCtx) (s : State) : Host.Outcome State Fault Refusal :=
  rxRow 12 x (rxAdvance 3 x.unit x.snap x.now) s

/-- RX.BIT4 (R151). -/
def execRxBit4 (x : StepCtx) (s : State) : Host.Outcome State Fault Refusal :=
  rxRow 13 x (rxSample 4 x.unit x.snap x.now) s

/-- RX.BITW4 (R152). -/
def execRxBitw4 (x : StepCtx) (s : State) : Host.Outcome State Fault Refusal :=
  rxRow 14 x (rxAdvance 4 x.unit x.snap x.now) s

/-- RX.BIT5 (R151). -/
def execRxBit5 (x : StepCtx) (s : State) : Host.Outcome State Fault Refusal :=
  rxRow 15 x (rxSample 5 x.unit x.snap x.now) s

/-- RX.BITW5 (R152). -/
def execRxBitw5 (x : StepCtx) (s : State) : Host.Outcome State Fault Refusal :=
  rxRow 16 x (rxAdvance 5 x.unit x.snap x.now) s

/-- RX.BIT6 (R151). -/
def execRxBit6 (x : StepCtx) (s : State) : Host.Outcome State Fault Refusal :=
  rxRow 17 x (rxSample 6 x.unit x.snap x.now) s

/-- RX.BITW6 (R152). -/
def execRxBitw6 (x : StepCtx) (s : State) : Host.Outcome State Fault Refusal :=
  rxRow 18 x (rxAdvance 6 x.unit x.snap x.now) s

/-- RX.BIT7 (R151). -/
def execRxBit7 (x : StepCtx) (s : State) : Host.Outcome State Fault Refusal :=
  rxRow 19 x (rxSample 7 x.unit x.snap x.now) s

/-- RX.BITW7.ATN: code 0x14 with the unit under ATN (R152, R153). -/
def execRxBitw7Atn (x : StepCtx) (s : State) : Host.Outcome State Fault Refusal :=
  rowStep x ((s.dev x.unit).selectsRx x.snap 20 && (s.dev x.unit).atn) (rxCompleteAtn x.unit x.snap x.now) s

/-- RX.BITW7.LISTEN: code 0x14 with the unit listening, not under ATN (R152, R154). -/
def execRxBitw7Listen (x : StepCtx) (s : State) : Host.Outcome State Fault Refusal :=
  rowStep x ((s.dev x.unit).selectsRx x.snap 20 && !(s.dev x.unit).atn) (rxCompleteListen x.unit x.snap x.now) s

/-- RX.DONE0 (R156). -/
def execRxDone0 (x : StepCtx) (s : State) : Host.Outcome State Fault Refusal :=
  rxRow 21 x (rxTerminal) s

/-- RX.DONE1 (R155). -/
def execRxDone1 (x : StepCtx) (s : State) : Host.Outcome State Fault Refusal :=
  rxRow 22 x (rxTerminal) s

/-- RX.RETRY0 (R156). -/
def execRxRetry0 (x : StepCtx) (s : State) : Host.Outcome State Fault Refusal :=
  rxRow 23 x (rxTerminal) s

/-- RX.RETRY1 (R156). -/
def execRxRetry1 (x : StepCtx) (s : State) : Host.Outcome State Fault Refusal :=
  rxRow 24 x (rxTerminal) s

end Sys2Proof.Machine
end

