-- ==== Sys2Proof/Machine/Transmit.lean ====
section
/-! DEFINITION. The byte-transmit sub-machine (44_byte_transmit.md): one operation per phase rule, then one
meaning per transmit row of the table. -/

namespace Sys2Proof.Machine

/-- PRE0: the turn-around, DATA low and CLK high in one snapshot; the talker takes CLK (R165). -/
def txPre0 (u : UnitNo) (S : Snapshot) (now : Clock) (s : State) : State :=
  if !S.data && S.clk then (s.fabricWrite u true false).setPhase u .pre1 now else s

/-- PRE1: settle, then release CLK, ready to send (R166). -/
def txPre1 (u : UnitNo) (now : Clock) (s : State) : State :=
  if s.cfg.tTxSettle ≤ s.elapsed u now then (s.fabricWrite u false false).setPhase u .ready now else s

/-- READY: on DATA high fetch the byte; send it, hold for EOI, or stop talking on an error (R167, R180). -/
def txReady (u : UnitNo) (S : Snapshot) (now : Clock) (s : State) : State :=
  if S.data then
    let call := DispCall.read u (channelOf (s.dev u).secondary)
    let a := s.answerTo call
    let s1 := s.dispatch call
    match stClass s.cfg a.status with
    | .ok    => (s1.updDev u fun d => { d with byte := a.byte, cursor := 0 }).setPhase u .bit now
    | .eoi   => (s1.updDev u fun d => { d with byte := a.byte }).setPhase u .eoi now
    | .error =>
      ((s1.updDev u fun d => { d with talking := false }).fabricWrite u false false).setPhase u .pre0 now
  else s

/-- EOI hold: wait for the receiver's DATA low (R168). -/
def txEoi (u : UnitNo) (S : Snapshot) (now : Clock) (s : State) : State :=
  if !S.data then s.setPhase u .eoiw now else s

/-- EOIW: wait for the receiver's DATA high (R169). -/
def txEoiw (u : UnitNo) (S : Snapshot) (now : Clock) (s : State) : State :=
  if S.data then (s.updDev u fun d => { d with cursor := 0 }).setPhase u .bit now else s

/-- BIT with cursor `n`: CLK low, DATA low iff the bit is 0 (R171). -/
def txSetup (n : Fin 8) (u : UnitNo) (now : Clock) (s : State) : State :=
  if s.cfg.tBit ≤ s.elapsed u now then
    (s.fabricWrite u true (!byteBit (s.dev u).byte n)).setPhase u .bitw now
  else s

/-- BITW with cursor `n`: CLK high, DATA unchanged; then the next bit or the end of the frame (R172). -/
def txValid (n : Fin 8) (u : UnitNo) (now : Clock) (s : State) : State :=
  if s.cfg.tBit ≤ s.elapsed u now then
    let s1 := s.fabricWrite u false (!byteBit (s.dev u).byte n)
    if n.val < 7 then (s1.updDev u fun d => { d with cursor := n + 1 }).setPhase u .bit now
    else s1.setPhase u .done0 now
  else s

/-- DONE0: end of frame, CLK low, DATA released (R173). -/
def txDone0 (u : UnitNo) (now : Clock) (s : State) : State :=
  if s.cfg.tBit ≤ s.elapsed u now then (s.fabricWrite u true false).setPhase u .done1 now else s

/-- DONE1: the frame acknowledge, tested before the timeout; the final byte is known by the latched status
(R174, R175). -/
def txDone1 (u : UnitNo) (S : Snapshot) (now : Clock) (s : State) : State :=
  if !S.data then
    if s.statusOf u (channelOf (s.dev u).secondary) = s.cfg.statusEoi then
      ((s.updDev u fun d => { d with talking := false }).fabricWrite u false false).setPhase u .pre0 now
    else s.setPhase u .pre1 now
  else if s.cfg.tAck ≤ s.elapsed u now then (s.fabricWrite u false false).setPhase u .retry0 now
  else s

/-- RETRY0: the first half of the retry pulse ends (R176). -/
def txRetry0 (u : UnitNo) (now : Clock) (s : State) : State :=
  if s.cfg.tRetry ≤ s.elapsed u now then (s.fabricWrite u true false).setPhase u .retry1 now else s

/-- RETRY1: the second half ends; resend from bit 0 (R177). -/
def txRetry1 (u : UnitNo) (now : Clock) (s : State) : State :=
  if s.cfg.tRetry ≤ s.elapsed u now then
    ((s.fabricWrite u false false).updDev u fun d => { d with cursor := 0 }).setPhase u .bit now
  else s

/-- `TxStep(u, S, now)`: the branch of the unit's phase (R163). -/
def txStep (u : UnitNo) (S : Snapshot) (now : Clock) (s : State) : State :=
  match (s.dev u).phase with
  | .pre0   => txPre0 u S now s
  | .pre1   => txPre1 u now s
  | .ready  => txReady u S now s
  | .eoi    => txEoi u S now s
  | .eoiw   => txEoiw u S now s
  | .bit    => txSetup (s.dev u).cursor u now s
  | .bitw   => txValid (s.dev u).cursor u now s
  | .done0  => txDone0 u now s
  | .done1  => txDone1 u S now s
  | .retry0 => txRetry0 u now s
  | .retry1 => txRetry1 u now s

/-! ### The rows. A row acts when it is the one the unit's step selects. -/

/-- A transmit row with phase code `k`, run by itself (44_byte_transmit.md R163; notes/assumptions/4.md). -/
def txRow (k : Nat) (x : StepCtx) (body : State → State) (s : State) : Host.Outcome State Fault Refusal :=
  rowStep x ((s.dev x.unit).selectsTx x.snap k) body s

/-- TX.PRE0 (R165). -/
def execTxPre0 (x : StepCtx) (s : State) : Host.Outcome State Fault Refusal :=
  txRow 0 x (txPre0 x.unit x.snap x.now) s

/-- TX.PRE1 (R166). -/
def execTxPre1 (x : StepCtx) (s : State) : Host.Outcome State Fault Refusal :=
  txRow 1 x (txPre1 x.unit x.now) s

/-- TX.READY (R167, R180). -/
def execTxReady (x : StepCtx) (s : State) : Host.Outcome State Fault Refusal :=
  txRow 2 x (txReady x.unit x.snap x.now) s

/-- TX.EOI (R168). -/
def execTxEoi (x : StepCtx) (s : State) : Host.Outcome State Fault Refusal :=
  txRow 3 x (txEoi x.unit x.snap x.now) s

/-- TX.EOIW (R169). -/
def execTxEoiw (x : StepCtx) (s : State) : Host.Outcome State Fault Refusal :=
  txRow 4 x (txEoiw x.unit x.snap x.now) s

/-- TX.BIT0 (R171). -/
def execTxBit0 (x : StepCtx) (s : State) : Host.Outcome State Fault Refusal :=
  txRow 5 x (txSetup 0 x.unit x.now) s

/-- TX.BITW0 (R172). -/
def execTxBitw0 (x : StepCtx) (s : State) : Host.Outcome State Fault Refusal :=
  txRow 6 x (txValid 0 x.unit x.now) s

/-- TX.BIT1 (R171). -/
def execTxBit1 (x : StepCtx) (s : State) : Host.Outcome State Fault Refusal :=
  txRow 7 x (txSetup 1 x.unit x.now) s

/-- TX.BITW1 (R172). -/
def execTxBitw1 (x : StepCtx) (s : State) : Host.Outcome State Fault Refusal :=
  txRow 8 x (txValid 1 x.unit x.now) s

/-- TX.BIT2 (R171). -/
def execTxBit2 (x : StepCtx) (s : State) : Host.Outcome State Fault Refusal :=
  txRow 9 x (txSetup 2 x.unit x.now) s

/-- TX.BITW2 (R172). -/
def execTxBitw2 (x : StepCtx) (s : State) : Host.Outcome State Fault Refusal :=
  txRow 10 x (txValid 2 x.unit x.now) s

/-- TX.BIT3 (R171). -/
def execTxBit3 (x : StepCtx) (s : State) : Host.Outcome State Fault Refusal :=
  txRow 11 x (txSetup 3 x.unit x.now) s

/-- TX.BITW3 (R172). -/
def execTxBitw3 (x : StepCtx) (s : State) : Host.Outcome State Fault Refusal :=
  txRow 12 x (txValid 3 x.unit x.now) s

/-- TX.BIT4 (R171). -/
def execTxBit4 (x : StepCtx) (s : State) : Host.Outcome State Fault Refusal :=
  txRow 13 x (txSetup 4 x.unit x.now) s

/-- TX.BITW4 (R172). -/
def execTxBitw4 (x : StepCtx) (s : State) : Host.Outcome State Fault Refusal :=
  txRow 14 x (txValid 4 x.unit x.now) s

/-- TX.BIT5 (R171). -/
def execTxBit5 (x : StepCtx) (s : State) : Host.Outcome State Fault Refusal :=
  txRow 15 x (txSetup 5 x.unit x.now) s

/-- TX.BITW5 (R172). -/
def execTxBitw5 (x : StepCtx) (s : State) : Host.Outcome State Fault Refusal :=
  txRow 16 x (txValid 5 x.unit x.now) s

/-- TX.BIT6 (R171). -/
def execTxBit6 (x : StepCtx) (s : State) : Host.Outcome State Fault Refusal :=
  txRow 17 x (txSetup 6 x.unit x.now) s

/-- TX.BITW6 (R172). -/
def execTxBitw6 (x : StepCtx) (s : State) : Host.Outcome State Fault Refusal :=
  txRow 18 x (txValid 6 x.unit x.now) s

/-- TX.BIT7 (R171). -/
def execTxBit7 (x : StepCtx) (s : State) : Host.Outcome State Fault Refusal :=
  txRow 19 x (txSetup 7 x.unit x.now) s

/-- TX.BITW7 (R172). -/
def execTxBitw7 (x : StepCtx) (s : State) : Host.Outcome State Fault Refusal :=
  txRow 20 x (txValid 7 x.unit x.now) s

/-- TX.DONE0 (R173). -/
def execTxDone0 (x : StepCtx) (s : State) : Host.Outcome State Fault Refusal :=
  txRow 21 x (txDone0 x.unit x.now) s

/-- TX.DONE1 (R174, R175). -/
def execTxDone1 (x : StepCtx) (s : State) : Host.Outcome State Fault Refusal :=
  txRow 22 x (txDone1 x.unit x.snap x.now) s

/-- TX.RETRY0 (R176). -/
def execTxRetry0 (x : StepCtx) (s : State) : Host.Outcome State Fault Refusal :=
  txRow 23 x (txRetry0 x.unit x.now) s

/-- TX.RETRY1 (R177). -/
def execTxRetry1 (x : StepCtx) (s : State) : Host.Outcome State Fault Refusal :=
  txRow 24 x (txRetry1 x.unit x.now) s

end Sys2Proof.Machine
end

