-- ==== Sys2Proof/Machine/Controller.lean ====
section
/-! DEFINITION. The controller operations (41_device_controller.md) and the unit step they run
(42_atn_arbitration.md R125). -/

namespace Sys2Proof.Machine

/-- `UnitStep(u, S, now)` (42_atn_arbitration.md R125): an edge first, then the active regime's phase rule. -/
def unitStep (u : UnitNo) (S : Snapshot) (now : Clock) (s : State) : State :=
  if (s.dev u).seesFall S then atnEntry u now s
  else if (s.dev u).seesRise S then atnReturn u now s
  else match (s.dev u).regime with
    | .underAtn  => rxStep u S now true s
    | .listening => rxStep u S now false s
    | .talking   => txStep u S now s
    | .idle      => s

/-- The loop of `exec`: every enabled unit of the list takes one step on the same snapshot and clock, in the
list's order (41_device_controller.md R116, R118). -/
def stepUnits (S : Snapshot) (now : Clock) : List UnitNo → State → State
  | [],      s => s
  | u :: us, s => stepUnits S now us (if (s.dev u).enabled then unitStep u S now s else s)

/-- The fields of a DeviceState that `enable` and `reset` leave: all at power-on, but enabled
(41_device_controller.md R112, R115; 10_state.md R38). -/
def clearedDevice : DeviceState := { DeviceState.powerOn with enabled := true }

/-- `dev[u]` cleared and enabled, its lines released (R112, R115). -/
def clearUnit (s : State) (u : UnitNo) : State := (s.updDev u fun _ => clearedDevice).fabricWrite u false false

/-- The effect of `init()` (R111): release every slot once, then no more. -/
def initOnce (s : State) : State :=
  if s.initialized then s
  else { (unitsOf s.cfg).foldl (fun t u => t.fabricWrite u false false) s with initialized := true }

/-- No operation this call (30_encoding.md R84). -/
def execNop (s : State) : Host.Outcome State Fault Refusal := .next s

/-- `init()` (R111). -/
def execInit (s : State) : Host.Outcome State Fault Refusal := .next (initOnce s)

/-- `enable(u)` (R112, R113): range check, then lazy `init`, then the double-enable check. -/
def execEnable (i : Int) (s : State) : Host.Outcome State Fault Refusal :=
  match unitOperand s.cfg i with
  | none   => .next { s with enableResult := some .errRange }
  | some u =>
    let s1 := initOnce s
    if (s1.dev u).enabled then .next { s1 with enableResult := some .errAlready }
    else .next { clearUnit s1 u with enableResult := some .ok }

/-- `disable(u)` (R114): the flags and the phase of an enabled unit, and its lines. -/
def execDisable (i : Int) (s : State) : Host.Outcome State Fault Refusal :=
  match unitOperand s.cfg i with
  | none   => .next s
  | some u =>
    if (s.dev u).enabled then
      .next ((s.updDev u fun d =>
        { d with enabled := false, atn := false, listening := false, talking := false,
                 phase := .pre0 }).fabricWrite u false false)
    else .next s

/-- `reset()` (R115): every enabled unit is cleared and stays enabled. -/
def execReset (s : State) : Host.Outcome State Fault Refusal :=
  .next ((unitsOf s.cfg).foldl (fun t u => if (t.dev u).enabled then clearUnit t u else t) s)

/-- `exec(now)` (R116, R117): nothing before initialisation; else the fabric is read once and every enabled
unit is stepped. A clock smaller than that of the previous `exec` is refused
(70_reset_and_hazards.md R245, 93_implementation_defined.md U1; notes/assumptions/10.md). -/
def execExec (now : Clock) (s : State) : Host.Outcome State Fault Refusal :=
  if s.initialized then
    match s.clockBack now with
    | some p => .refused (.clockDecreased p now)
    | none   => .next { stepUnits s.fabricRead now (unitsOf s.cfg) s with lastNow := some now }
  else .next { s with lastNow := some now }

end Sys2Proof.Machine
end

