-- ==== Sys2Proof/Machine/Dispatcher.lean ====
section
/-! DEFINITION. The seven Dispatcher calls as instructions (45_dispatcher.md R190 to R198): each makes its
call and latches the returned status. A row issued by itself is made for every unit of the block, enabled or not,
whatever its regime (DESIGN CHOICE, notes/assumptions/20.md), with its operand lines as the arguments, whatever the
unit's own state holds (DESIGN CHOICE, notes/assumptions/22.md). -/

namespace Sys2Proof.Machine

/-- `open(u, c)` (R191). -/
def execDispOpen (u : UnitNo) (c : Channel) (s : State) : Host.Outcome State Fault Refusal :=
  .next (callAtPort (.openCall u c) s)

/-- `close(u, c)` (R192). -/
def execDispClose (u : UnitNo) (c : Channel) (s : State) : Host.Outcome State Fault Refusal :=
  .next (callAtPort (.closeCall u c) s)

/-- `channelCommand(u, c)` (R193). -/
def execDispChannelCommand (u : UnitNo) (c : Channel) (s : State) : Host.Outcome State Fault Refusal :=
  .next (callAtPort (.channelCommand u c) s)

/-- `write(u, c, b)` (R194); channel and byte are the operands (notes/assumptions/22.md). -/
def execDispWrite (u : UnitNo) (c : Channel) (b : Byte) (s : State) : Host.Outcome State Fault Refusal :=
  .next (callAtPort (.write u c b) s)

/-- `read(u, c)` (R195): the byte is part of the recorded answer; the register `byte` stays
(notes/assumptions/22.md). -/
def execDispRead (u : UnitNo) (c : Channel) (s : State) : Host.Outcome State Fault Refusal :=
  .next (callAtPort (.read u c) s)

/-- `unlisten(u, c, p)` (R196); the channel and the prior status are the operands, also where they are not the
unit's `sec_prev[3:0]` and `status[c]` (notes/assumptions/22.md). -/
def execDispUnlisten (u : UnitNo) (c : Channel) (p : Byte) (s : State) : Host.Outcome State Fault Refusal :=
  .next (callAtPort (.unlisten u c p) s)

/-- `untalk(u, c, p)` (R197); the channel and the prior status are the operands, also where they are not the
unit's `sec_prev[3:0]` and `status[c]` (notes/assumptions/22.md). -/
def execDispUntalk (u : UnitNo) (c : Channel) (p : Byte) (s : State) : Host.Outcome State Fault Refusal :=
  .next (callAtPort (.untalk u c p) s)

end Sys2Proof.Machine
end

