-- ==== Sys2Proof/Machine/Fabric.lean ====
section
/-! DEFINITION. The fabric operations as instructions (40_bus_fabric.md). -/

namespace Sys2Proof.Machine

/-- `read`: the composite lines; no state of the block changes (R100). Its result goes to the model's
output latch (notes/assumptions/9.md). -/
def execFread (s : State) : Host.Outcome State Fault Refusal :=
  .next { s with readout := s.fabricRead }

/-- `write`: both bits of slot `u` (R101). A unit number outside the range has no slot
(notes/assumptions/6.md). Issued by itself at the port it acts for every unit of the block, enabled or not: the
spec has it issued only by the unit's own step and by the controller (R33, R101), and what it does elsewhere is
the model's choice (DESIGN CHOICE, notes/assumptions/20.md). -/
def execFwrite (u : UnitNo) (cl dl : Bool) (s : State) : Host.Outcome State Fault Refusal :=
  .next (if inRange s.cfg u then s.fabricWrite u cl dl else s)

end Sys2Proof.Machine
end

