-- ==== Sys2Proof/Machine/Dispatch.lean ====
section
/-! DEFINITION. The dispatch of an instruction to its meaning, one arm per row of spec/opcode_table.json. -/

namespace Sys2Proof.Machine

def exec (i : Instr) (s : State) : Host.Outcome State Fault Refusal :=
  match i with
  | .listen u a              => Sys2Proof.Machine.execListen u a s
  | .unlisten u              => Sys2Proof.Machine.execUnlisten u s
  | .talk u a                => Sys2Proof.Machine.execTalk u a s
  | .untalk u                => Sys2Proof.Machine.execUntalk u s
  | .other u p               => Sys2Proof.Machine.execOther u p s
  | .openCmd u c             => Sys2Proof.Machine.execOpenCmd u c s
  | .closeCmd u c            => Sys2Proof.Machine.execCloseCmd u c s
  | .dataCmd u k c           => Sys2Proof.Machine.execDataCmd u k c s
  | .atnFall x               => Sys2Proof.Machine.execAtnFall x s
  | .atnRise x               => Sys2Proof.Machine.execAtnRise x s
  | .nop                     => Sys2Proof.Machine.execNop s
  | .init                    => Sys2Proof.Machine.execInit s
  | .enable u                => Sys2Proof.Machine.execEnable u s
  | .disable u               => Sys2Proof.Machine.execDisable u s
  | .reset                   => Sys2Proof.Machine.execReset s
  | .exec now                => Sys2Proof.Machine.execExec now s
  | .fread                   => Sys2Proof.Machine.execFread s
  | .fwrite u cl dl          => Sys2Proof.Machine.execFwrite u cl dl s
  | .dispOpen u c            => Sys2Proof.Machine.execDispOpen u c s
  | .dispClose u c           => Sys2Proof.Machine.execDispClose u c s
  | .dispChannelCommand u c  => Sys2Proof.Machine.execDispChannelCommand u c s
  | .dispWrite u c b         => Sys2Proof.Machine.execDispWrite u c b s
  | .dispRead u c            => Sys2Proof.Machine.execDispRead u c s
  | .dispUnlisten u c p      => Sys2Proof.Machine.execDispUnlisten u c p s
  | .dispUntalk u c p        => Sys2Proof.Machine.execDispUntalk u c p s
  | .rxPre0 x                => Sys2Proof.Machine.execRxPre0 x s
  | .rxPre1 x                => Sys2Proof.Machine.execRxPre1 x s
  | .rxReady x               => Sys2Proof.Machine.execRxReady x s
  | .rxEoi x                 => Sys2Proof.Machine.execRxEoi x s
  | .rxEoiw x                => Sys2Proof.Machine.execRxEoiw x s
  | .rxBit0 x                => Sys2Proof.Machine.execRxBit0 x s
  | .rxBitw0 x               => Sys2Proof.Machine.execRxBitw0 x s
  | .rxBit1 x                => Sys2Proof.Machine.execRxBit1 x s
  | .rxBitw1 x               => Sys2Proof.Machine.execRxBitw1 x s
  | .rxBit2 x                => Sys2Proof.Machine.execRxBit2 x s
  | .rxBitw2 x               => Sys2Proof.Machine.execRxBitw2 x s
  | .rxBit3 x                => Sys2Proof.Machine.execRxBit3 x s
  | .rxBitw3 x               => Sys2Proof.Machine.execRxBitw3 x s
  | .rxBit4 x                => Sys2Proof.Machine.execRxBit4 x s
  | .rxBitw4 x               => Sys2Proof.Machine.execRxBitw4 x s
  | .rxBit5 x                => Sys2Proof.Machine.execRxBit5 x s
  | .rxBitw5 x               => Sys2Proof.Machine.execRxBitw5 x s
  | .rxBit6 x                => Sys2Proof.Machine.execRxBit6 x s
  | .rxBitw6 x               => Sys2Proof.Machine.execRxBitw6 x s
  | .rxBit7 x                => Sys2Proof.Machine.execRxBit7 x s
  | .rxBitw7Atn x            => Sys2Proof.Machine.execRxBitw7Atn x s
  | .rxBitw7Listen x         => Sys2Proof.Machine.execRxBitw7Listen x s
  | .rxDone0 x               => Sys2Proof.Machine.execRxDone0 x s
  | .rxDone1 x               => Sys2Proof.Machine.execRxDone1 x s
  | .rxRetry0 x              => Sys2Proof.Machine.execRxRetry0 x s
  | .rxRetry1 x              => Sys2Proof.Machine.execRxRetry1 x s
  | .txPre0 x                => Sys2Proof.Machine.execTxPre0 x s
  | .txPre1 x                => Sys2Proof.Machine.execTxPre1 x s
  | .txReady x               => Sys2Proof.Machine.execTxReady x s
  | .txEoi x                 => Sys2Proof.Machine.execTxEoi x s
  | .txEoiw x                => Sys2Proof.Machine.execTxEoiw x s
  | .txBit0 x                => Sys2Proof.Machine.execTxBit0 x s
  | .txBitw0 x               => Sys2Proof.Machine.execTxBitw0 x s
  | .txBit1 x                => Sys2Proof.Machine.execTxBit1 x s
  | .txBitw1 x               => Sys2Proof.Machine.execTxBitw1 x s
  | .txBit2 x                => Sys2Proof.Machine.execTxBit2 x s
  | .txBitw2 x               => Sys2Proof.Machine.execTxBitw2 x s
  | .txBit3 x                => Sys2Proof.Machine.execTxBit3 x s
  | .txBitw3 x               => Sys2Proof.Machine.execTxBitw3 x s
  | .txBit4 x                => Sys2Proof.Machine.execTxBit4 x s
  | .txBitw4 x               => Sys2Proof.Machine.execTxBitw4 x s
  | .txBit5 x                => Sys2Proof.Machine.execTxBit5 x s
  | .txBitw5 x               => Sys2Proof.Machine.execTxBitw5 x s
  | .txBit6 x                => Sys2Proof.Machine.execTxBit6 x s
  | .txBitw6 x               => Sys2Proof.Machine.execTxBitw6 x s
  | .txBit7 x                => Sys2Proof.Machine.execTxBit7 x s
  | .txBitw7 x               => Sys2Proof.Machine.execTxBitw7 x s
  | .txDone0 x               => Sys2Proof.Machine.execTxDone0 x s
  | .txDone1 x               => Sys2Proof.Machine.execTxDone1 x s
  | .txRetry0 x              => Sys2Proof.Machine.execTxRetry0 x s
  | .txRetry1 x              => Sys2Proof.Machine.execTxRetry1 x s

end Sys2Proof.Machine
end

