-- ==== Sys2Proof/Machine/Fetch.lean ====
section
/-! DEFINITION. Taking the next operation from the operation port (41_device_controller.md R110). -/

namespace Sys2Proof.Machine

/-- The word of NOP, which stands at the port when no operation is pending (30_encoding.md R84: "no operation
this call"). -/
def idleWord : PortWord := { fmt := .ctl, code := 0#8 }

/-- The next operation's word, and the state in which it is run: the entry is taken from the port and the
master's drive of that moment is on `m` (R110, 20_memory.md R62; notes/assumptions/2.md). -/
def fetch (s : State) : PortWord × State :=
  match s.port with
  | []        => (idleWord, s)
  | e :: rest => (e.word, { s with port := rest, m := e.m })

/-- The port holding one table word, with the master's drive as it is. -/
def portOfTableWord (m : MasterDrive) (w : Nat) : List PortEntry := [⟨m, tableWord w⟩]

end Sys2Proof.Machine
end

