-- ==== Sys2Proof/Machine/Step.lean ====
section
/-! DEFINITION. One step of the machine: the next operation at the port is decoded and run. -/

namespace Sys2Proof.Machine

/-- One step (41_device_controller.md R110: operations are atomic and totally ordered). A port word that no
row of the table has is refused by name. -/
def step (s : State) : Host.Outcome State Fault Refusal :=
  match decode (fetch s).1 with
  | .ok i    => exec i (fetch s).2
  | .error e => .refused (.noInstruction e)

/-- The state with a table word as the only operation at the port, so that the next step runs it. No row is
wider than one byte: `nbits` needs no more than that. -/
def State.withFetchWord (s : State) (nbits w : Nat) : State :=
  { s with port := portOfTableWord s.m (w % 2 ^ nbits) }

end Sys2Proof.Machine
end

