-- ==== Sys2Proof/Safety.lean ====
section
/-! DEFINITION. The terms the claims use: what a unit's step may touch, the situations in which a row of the
table is the one taken, the drive a unit must hold in each regime, and the invariant of the block. -/

namespace Sys2Proof.Machine

/-! ### What changed between two states -/

/-- From `s` to `t` only unit `u`'s DeviceState and slot, and the Dispatcher's side (answers and calls), may
differ (20_memory.md R51). -/
def OnlyUnit (u : UnitNo) (s t : State) : Prop :=
  t.cfg = s.cfg ∧ t.initialized = s.initialized ∧ t.m = s.m ∧ t.port = s.port ∧
  t.enableResult = s.enableResult ∧ t.readout = s.readout ∧ t.lastNow = s.lastNow ∧
  ∀ v, v ≠ u → t.dev v = s.dev v ∧ t.slot v = s.slot v

/-- No Dispatcher call was made from `s` to `t`. -/
def NoCall (s t : State) : Prop := t.calls = s.calls ∧ t.answers = s.answers

/-- Exactly the call `call` was made from `s` to `t`: it took the next answer, and the record shows the
status table as it was in `s` (45_dispatcher.md R190, R199). -/
def OneCall (call : DispCall) (s t : State) : Prop :=
  t.calls = ⟨call, (s.dev call.unit).status, s.answerTo call⟩ :: s.calls ∧ t.answers = s.answers.tail

/-- From `s` to `t` unit `u` went to DeviceState `d` and slot `w`, and nothing else of the block changed. -/
def UnitBecomes (u : UnitNo) (d : DeviceState) (w : Slot) (s t : State) : Prop :=
  OnlyUnit u s t ∧ t.dev u = d ∧ t.slot u = w

/-- The same, with no Dispatcher call. -/
def QuietlyBecomes (u : UnitNo) (d : DeviceState) (w : Slot) (s t : State) : Prop :=
  UnitBecomes u d w s t ∧ NoCall s t

/-- The DeviceState `d` after the answer to a call on channel `c` has been latched (45_dispatcher.md R198). -/
def latched (d : DeviceState) (c : Channel) (st : Byte) : DeviceState :=
  { d with status := d.status.set c st }

/-! ### When a row is the one taken -/

/-- The clock does not go backwards (70_reset_and_hazards.md R245). -/
def ClockOk (s : State) (now : Clock) : Prop := s.cfg.clockW = none → ∀ p ∈ s.lastNow, p ≤ now

/-- Unit `u` is a unit of the block and is enabled. -/
def Stepped (s : State) (u : UnitNo) : Prop :=
  s.cfg.unitMin ≤ u ∧ u ≤ s.cfg.unitMax ∧ (s.dev u).enabled = true

/-- The unit is in a receiving regime and sees no ATN edge: under ATN when `underAtn`, else listening
(42_atn_arbitration.md R125). -/
def Receiving (s : State) (x : StepCtx) (underAtn : Bool) : Prop :=
  Stepped s x.unit ∧ ClockOk s x.now ∧ (s.dev x.unit).atn = underAtn ∧ x.snap.atn = !underAtn ∧
  (underAtn = false → (s.dev x.unit).listening = true)

/-- The unit is in the talking regime and sees no ATN edge (42_atn_arbitration.md R125). -/
def Transmitting (s : State) (x : StepCtx) : Prop :=
  Stepped s x.unit ∧ ClockOk s x.now ∧ (s.dev x.unit).atn = false ∧ x.snap.atn = true ∧
  (s.dev x.unit).listening = false ∧ (s.dev x.unit).talking = true

/-- The unit's channel (10_state.md R26). -/
def State.channel (s : State) (u : UnitNo) : Channel := channelOf (s.dev u).secondary

/-! ### The invariant -/

/-- Only the host loop's five operations and NOP wait at the port: nothing outside the block can issue
another row (60_exceptions.md R219). -/
def HostOnly (s : State) : Prop := ∀ e ∈ s.port, e.word.fmt = .ctl

/-- The drive a unit holds in each regime (10_state.md R37). A disabled unit is idle and so drives nothing
(R36 (c)). -/
def DriveOk (d : DeviceState) (w : Slot) : Prop :=
  match d.regime with
  | .idle      => w = ⟨false, false⟩
  | .underAtn  =>
    w.clkLow = false ∧ (w.dataLow = true ↔ d.phase = .pre0 ∨ d.phase = .pre1) ∧
    d.phase ∈ [Phase.pre0, .pre1, .ready, .bit, .bitw, .done1]
  | .listening =>
    w.clkLow = false ∧ (w.dataLow = true ↔ d.phase = .pre0 ∨ d.phase = .pre1 ∨ d.phase = .eoi) ∧
    d.phase ∈ [Phase.pre0, .pre1, .ready, .eoi, .eoiw, .bit, .bitw, .done1]
  | .talking   =>
    (w.clkLow = true ↔ d.phase = .pre1 ∨ d.phase = .bitw ∨ d.phase = .done1 ∨ d.phase = .retry1) ∧
    (w.dataLow = true → d.phase = .bitw ∨ (d.phase = .bit ∧ d.cursor ≠ 0) ∨ d.phase = .done0)

/-- What holds of unit `u`: a disabled unit has no flag set (10_state.md R38); an enabled one is in range and
the controller is initialized (41_device_controller.md R117); listening and talking exclude one another
(10_state.md R36 (d)); under ATN the address bytes not yet captured are zero (R27;
notes/assumptions/17.md); the drive is the regime's (R37); with the unbounded clock no stamp lies
ahead of the last `exec`. -/
def UnitOk (s : State) (u : UnitNo) : Prop :=
  let d := s.dev u
  (d.enabled = false → d.atn = false ∧ d.listening = false ∧ d.talking = false) ∧
  (d.enabled = true → inRange s.cfg u = true ∧ s.initialized = true) ∧
  ¬ (d.listening = true ∧ d.talking = true) ∧
  (d.atn = true → d.addrCount = 0 → d.primary = 0#8) ∧
  (d.atn = true → d.addrCount.val ≤ 1 → d.secondary = 0#8) ∧
  DriveOk d (s.slot u) ∧
  (d.enabled = true → s.cfg.clockW = none → d.stamp ≤ s.lastNow.getD 0)

/-- The invariant of the block under its host loop. -/
def BlockInv (s : State) : Prop := HostOnly s ∧ ∀ u, UnitOk s u

/-- The bus-wide obligation of the bus master: at most one unit talks (10_state.md R36 (e),
70_reset_and_hazards.md R248). No rule of the block keeps it. -/
def AtMostOneTalker (s : State) : Prop :=
  ∀ u v, (s.dev u).talking = true → (s.dev v).talking = true → u = v

end Sys2Proof.Machine
end

