-- ==== Sys2Proof/Laws/State.lean ====
section
/-! SUPPORT. One lemma per field per update of the state, and what `dev` and `slot` read after an update, so
that no proof unfolds a record update. -/

namespace Sys2Proof.Machine

variable (s : State) (u v : UnitNo) (f : DeviceState → DeviceState) (cl dl : Bool) (p : Phase) (now : Clock)
  (call : DispCall)

/-! ### `updDev` -/

@[simp] theorem State.updDev_cfg : (s.updDev u f).cfg = s.cfg := rfl
@[simp] theorem State.updDev_initialized : (s.updDev u f).initialized = s.initialized := rfl
@[simp] theorem State.updDev_slots : (s.updDev u f).slots = s.slots := rfl
@[simp] theorem State.updDev_m : (s.updDev u f).m = s.m := rfl
@[simp] theorem State.updDev_port : (s.updDev u f).port = s.port := rfl
@[simp] theorem State.updDev_answers : (s.updDev u f).answers = s.answers := rfl
@[simp] theorem State.updDev_calls : (s.updDev u f).calls = s.calls := rfl
@[simp] theorem State.updDev_enableResult : (s.updDev u f).enableResult = s.enableResult := rfl
@[simp] theorem State.updDev_readout : (s.updDev u f).readout = s.readout := rfl
@[simp] theorem State.updDev_lastNow : (s.updDev u f).lastNow = s.lastNow := rfl

/-! ### `fabricWrite` -/

@[simp] theorem State.fabricWrite_cfg : (s.fabricWrite u cl dl).cfg = s.cfg := rfl
@[simp] theorem State.fabricWrite_initialized : (s.fabricWrite u cl dl).initialized = s.initialized := rfl
@[simp] theorem State.fabricWrite_devs : (s.fabricWrite u cl dl).devs = s.devs := rfl
@[simp] theorem State.fabricWrite_m : (s.fabricWrite u cl dl).m = s.m := rfl
@[simp] theorem State.fabricWrite_port : (s.fabricWrite u cl dl).port = s.port := rfl
@[simp] theorem State.fabricWrite_answers : (s.fabricWrite u cl dl).answers = s.answers := rfl
@[simp] theorem State.fabricWrite_calls : (s.fabricWrite u cl dl).calls = s.calls := rfl
@[simp] theorem State.fabricWrite_enableResult : (s.fabricWrite u cl dl).enableResult = s.enableResult := rfl
@[simp] theorem State.fabricWrite_readout : (s.fabricWrite u cl dl).readout = s.readout := rfl
@[simp] theorem State.fabricWrite_lastNow : (s.fabricWrite u cl dl).lastNow = s.lastNow := rfl

/-! ### `setPhase` -/

@[simp] theorem State.setPhase_cfg : (s.setPhase u p now).cfg = s.cfg := rfl
@[simp] theorem State.setPhase_initialized : (s.setPhase u p now).initialized = s.initialized := rfl
@[simp] theorem State.setPhase_slots : (s.setPhase u p now).slots = s.slots := rfl
@[simp] theorem State.setPhase_m : (s.setPhase u p now).m = s.m := rfl
@[simp] theorem State.setPhase_port : (s.setPhase u p now).port = s.port := rfl
@[simp] theorem State.setPhase_answers : (s.setPhase u p now).answers = s.answers := rfl
@[simp] theorem State.setPhase_calls : (s.setPhase u p now).calls = s.calls := rfl
@[simp] theorem State.setPhase_enableResult : (s.setPhase u p now).enableResult = s.enableResult := rfl
@[simp] theorem State.setPhase_readout : (s.setPhase u p now).readout = s.readout := rfl
@[simp] theorem State.setPhase_lastNow : (s.setPhase u p now).lastNow = s.lastNow := rfl

/-! ### `dispatch` -/

@[simp] theorem State.dispatch_cfg : (s.dispatch call).cfg = s.cfg := rfl
@[simp] theorem State.dispatch_initialized : (s.dispatch call).initialized = s.initialized := rfl
@[simp] theorem State.dispatch_slots : (s.dispatch call).slots = s.slots := rfl
@[simp] theorem State.dispatch_m : (s.dispatch call).m = s.m := rfl
@[simp] theorem State.dispatch_port : (s.dispatch call).port = s.port := rfl
@[simp] theorem State.dispatch_enableResult : (s.dispatch call).enableResult = s.enableResult := rfl
@[simp] theorem State.dispatch_readout : (s.dispatch call).readout = s.readout := rfl
@[simp] theorem State.dispatch_lastNow : (s.dispatch call).lastNow = s.lastNow := rfl

@[simp] theorem State.dispatch_answers : (s.dispatch call).answers = s.answers.tail := rfl
@[simp] theorem State.dispatch_calls : (s.dispatch call).calls =
    ⟨call, (s.dev call.unit).status, s.answerTo call⟩ :: s.calls := rfl

/-! ### What `dev` and `slot` read after an update -/

theorem State.dev_updDev : (s.updDev u f).dev v = if v = u then f (s.dev u) else s.dev v := by
  unfold State.updDev State.dev
  by_cases h : v = u
  · subst h; simp
  · have h' : u.val ≠ v.val := fun e => h (Fin.ext e.symm)
    simp [h, h']

@[simp] theorem State.dev_updDev_self : (s.updDev u f).dev u = f (s.dev u) := by
  simp [State.dev_updDev]

theorem State.dev_updDev_of_ne (h : v ≠ u) : (s.updDev u f).dev v = s.dev v := by
  simp [State.dev_updDev, h]

@[simp] theorem State.slot_updDev : (s.updDev u f).slot v = s.slot v := rfl

@[simp] theorem State.dev_fabricWrite : (s.fabricWrite u cl dl).dev v = s.dev v := rfl

theorem State.slot_fabricWrite : (s.fabricWrite u cl dl).slot v = if v = u then ⟨cl, dl⟩ else s.slot v := by
  unfold State.fabricWrite State.slot
  by_cases h : v = u
  · subst h; simp
  · have h' : u.val ≠ v.val := fun e => h (Fin.ext e.symm)
    simp [h, h']

@[simp] theorem State.slot_fabricWrite_self : (s.fabricWrite u cl dl).slot u = ⟨cl, dl⟩ := by
  simp [State.slot_fabricWrite]

theorem State.slot_fabricWrite_of_ne (h : v ≠ u) : (s.fabricWrite u cl dl).slot v = s.slot v := by
  simp [State.slot_fabricWrite, h]

theorem State.dev_setPhase : (s.setPhase u p now).dev v =
    if v = u then { s.dev u with phase := p, stamp := now } else s.dev v := by
  simp [State.setPhase, State.dev_updDev]

@[simp] theorem State.dev_setPhase_self :
    (s.setPhase u p now).dev u = { s.dev u with phase := p, stamp := now } := by
  simp [State.dev_setPhase]

theorem State.dev_setPhase_of_ne (h : v ≠ u) : (s.setPhase u p now).dev v = s.dev v := by
  simp [State.dev_setPhase, h]

@[simp] theorem State.slot_setPhase : (s.setPhase u p now).slot v = s.slot v := rfl

theorem State.dev_dispatch : (s.dispatch call).dev v =
    if v = call.unit then latched (s.dev call.unit) call.channel (s.answerTo call).status else s.dev v :=
  State.dev_updDev s call.unit v fun d => latched d call.channel (s.answerTo call).status

@[simp] theorem State.dev_dispatch_self : (s.dispatch call).dev call.unit =
    latched (s.dev call.unit) call.channel (s.answerTo call).status := by
  simp [State.dev_dispatch]

theorem State.dev_dispatch_of_ne (h : v ≠ call.unit) : (s.dispatch call).dev v = s.dev v := by
  simp [State.dev_dispatch, h]

@[simp] theorem State.slot_dispatch : (s.dispatch call).slot v = s.slot v := rfl

theorem State.elapsed_eq :
    s.elapsed u now = Sys2Proof.Machine.elapsed s.cfg.clockW now (s.dev u).stamp := rfl

/-! ### The fields of a DeviceState after the latch -/

variable (d : DeviceState) (c : Channel) (st : Byte)

@[simp] theorem latched_enabled : (latched d c st).enabled = d.enabled := rfl
@[simp] theorem latched_atn : (latched d c st).atn = d.atn := rfl
@[simp] theorem latched_listening : (latched d c st).listening = d.listening := rfl
@[simp] theorem latched_talking : (latched d c st).talking = d.talking := rfl
@[simp] theorem latched_phase : (latched d c st).phase = d.phase := rfl
@[simp] theorem latched_cursor : (latched d c st).cursor = d.cursor := rfl
@[simp] theorem latched_byte : (latched d c st).byte = d.byte := rfl
@[simp] theorem latched_primary : (latched d c st).primary = d.primary := rfl
@[simp] theorem latched_secondary : (latched d c st).secondary = d.secondary := rfl
@[simp] theorem latched_secPrev : (latched d c st).secPrev = d.secPrev := rfl
@[simp] theorem latched_addrCount : (latched d c st).addrCount = d.addrCount := rfl
@[simp] theorem latched_stamp : (latched d c st).stamp = d.stamp := rfl
@[simp] theorem latched_status : (latched d c st).status = d.status.set c st := rfl

/-! ### The call's own unit and channel -/

variable (b : Byte)

@[simp] theorem DispCall.unit_openCall : (DispCall.openCall u c).unit = u := rfl
@[simp] theorem DispCall.unit_closeCall : (DispCall.closeCall u c).unit = u := rfl
@[simp] theorem DispCall.unit_channelCommand : (DispCall.channelCommand u c).unit = u := rfl
@[simp] theorem DispCall.unit_write : (DispCall.write u c b).unit = u := rfl
@[simp] theorem DispCall.unit_read : (DispCall.read u c).unit = u := rfl
@[simp] theorem DispCall.unit_unlisten : (DispCall.unlisten u c b).unit = u := rfl
@[simp] theorem DispCall.unit_untalk : (DispCall.untalk u c b).unit = u := rfl
@[simp] theorem DispCall.channel_openCall : (DispCall.openCall u c).channel = c := rfl
@[simp] theorem DispCall.channel_closeCall : (DispCall.closeCall u c).channel = c := rfl
@[simp] theorem DispCall.channel_channelCommand : (DispCall.channelCommand u c).channel = c := rfl
@[simp] theorem DispCall.channel_write : (DispCall.write u c b).channel = c := rfl
@[simp] theorem DispCall.channel_read : (DispCall.read u c).channel = c := rfl
@[simp] theorem DispCall.channel_unlisten : (DispCall.unlisten u c b).channel = c := rfl
@[simp] theorem DispCall.channel_untalk : (DispCall.untalk u c b).channel = c := rfl

@[simp] theorem secondaryCall_unit : (secondaryCall u b).unit = u := by
  unfold secondaryCall; split <;> rfl

@[simp] theorem secondaryCall_channel : (secondaryCall u b).channel = channelOf b := by
  unfold secondaryCall; split <;> rfl

end Sys2Proof.Machine
end

