-- ==== Sys2Proof/Laws/Ops.lean ====
section
/-! SUPPORT. What each shared operation does, said once: the DeviceState and the slot it leaves to its unit, the
call it makes, and that nothing else changes. -/

namespace Sys2Proof.Machine

/-! ### Frames compose -/

theorem OnlyUnit.refl (u : UnitNo) (s : State) : OnlyUnit u s s :=
  ⟨rfl, rfl, rfl, rfl, rfl, rfl, rfl, fun _ _ => ⟨rfl, rfl⟩⟩

theorem OnlyUnit.trans {u : UnitNo} {s t r : State} (h : OnlyUnit u s t) (k : OnlyUnit u t r) :
    OnlyUnit u s r := by
  obtain ⟨a1, a2, a3, a4, a5, a6, a7, a8⟩ := h
  obtain ⟨b1, b2, b3, b4, b5, b6, b7, b8⟩ := k
  exact ⟨b1.trans a1, b2.trans a2, b3.trans a3, b4.trans a4, b5.trans a5, b6.trans a6, b7.trans a7,
    fun v hv => ⟨(b8 v hv).1.trans (a8 v hv).1, (b8 v hv).2.trans (a8 v hv).2⟩⟩

theorem OnlyUnit.updDev (u : UnitNo) (f : DeviceState → DeviceState) (s : State) :
    OnlyUnit u s (s.updDev u f) :=
  ⟨rfl, rfl, rfl, rfl, rfl, rfl, rfl, fun _ hv => ⟨State.dev_updDev_of_ne _ _ _ _ hv, rfl⟩⟩

theorem OnlyUnit.fabricWrite (u : UnitNo) (cl dl : Bool) (s : State) :
    OnlyUnit u s (s.fabricWrite u cl dl) :=
  ⟨rfl, rfl, rfl, rfl, rfl, rfl, rfl, fun _ hv => ⟨rfl, State.slot_fabricWrite_of_ne _ _ _ _ _ hv⟩⟩

theorem OnlyUnit.setPhase (u : UnitNo) (p : Phase) (now : Clock) (s : State) :
    OnlyUnit u s (s.setPhase u p now) := OnlyUnit.updDev u _ s

theorem OnlyUnit.dispatch (call : DispCall) (s : State) : OnlyUnit call.unit s (s.dispatch call) :=
  ⟨rfl, rfl, rfl, rfl, rfl, rfl, rfl, fun _ hv => ⟨State.dev_dispatch_of_ne _ _ _ hv, rfl⟩⟩

theorem NoCall.refl (s : State) : NoCall s s := ⟨rfl, rfl⟩

theorem NoCall.trans {s t r : State} (h : NoCall s t) (k : NoCall t r) : NoCall s r :=
  ⟨k.1.trans h.1, k.2.trans h.2⟩

/-! ### The shared operations -/

theorem updDev_becomes (u : UnitNo) (f : DeviceState → DeviceState) (s : State) :
    QuietlyBecomes u (f (s.dev u)) (s.slot u) s (s.updDev u f) :=
  ⟨⟨OnlyUnit.updDev u f s, by simp, by simp⟩, rfl, rfl⟩

theorem fabricWrite_becomes (u : UnitNo) (cl dl : Bool) (s : State) :
    QuietlyBecomes u (s.dev u) ⟨cl, dl⟩ s (s.fabricWrite u cl dl) :=
  ⟨⟨OnlyUnit.fabricWrite u cl dl s, by simp, by simp⟩, rfl, rfl⟩

theorem setPhase_becomes (u : UnitNo) (p : Phase) (now : Clock) (s : State) :
    QuietlyBecomes u { s.dev u with phase := p, stamp := now } (s.slot u) s (s.setPhase u p now) :=
  updDev_becomes u _ s

theorem dispatch_becomes (call : DispCall) (s : State) :
    UnitBecomes call.unit (latched (s.dev call.unit) call.channel (s.answerTo call).status)
      (s.slot call.unit) s (s.dispatch call) ∧ OneCall call s (s.dispatch call) :=
  ⟨⟨OnlyUnit.dispatch call s, by simp, by simp⟩, rfl, rfl⟩

theorem atnEntry_becomes (u : UnitNo) (now : Clock) (s : State) :
    QuietlyBecomes u
      { s.dev u with atn := true, secPrev := (s.dev u).secondary, primary := 0#8, secondary := 0#8,
                     addrCount := 0, phase := .pre0, stamp := now }
      ⟨false, true⟩ s (atnEntry u now s) := by
  refine ⟨⟨?_, by simp [atnEntry], by simp [atnEntry]⟩, rfl, rfl⟩
  exact ((OnlyUnit.updDev u _ s).trans (OnlyUnit.setPhase u _ now _)).trans (OnlyUnit.fabricWrite u _ _ _)

theorem regimeEntry_becomes (u : UnitNo) (now : Clock) (s : State) :
    QuietlyBecomes u { s.dev u with phase := .pre0, stamp := now } ⟨false, (s.dev u).listening⟩ s
      (regimeEntry u now s) := by
  unfold regimeEntry
  cases h : (s.dev u).listening
  · exact ⟨⟨(OnlyUnit.fabricWrite u _ _ s).trans (OnlyUnit.setPhase u _ now _), by simp [h], by simp⟩, rfl, rfl⟩
  · exact ⟨⟨(OnlyUnit.fabricWrite u _ _ s).trans (OnlyUnit.setPhase u _ now _), by simp [h], by simp⟩, rfl, rfl⟩

theorem cmdNone_becomes (u : UnitNo) (s : State) :
    QuietlyBecomes u
      (if (s.dev u).listening || (s.dev u).talking then { s.dev u with secondary := (s.dev u).secPrev }
       else s.dev u)
      (s.slot u) s (cmdNone u s) := by
  unfold cmdNone
  split
  · exact updDev_becomes u _ s
  · exact ⟨⟨OnlyUnit.refl u s, rfl, rfl⟩, rfl, rfl⟩

theorem dispatchSecondary_onlyUnit (u : UnitNo) (s : State) : OnlyUnit u s (dispatchSecondary u s) := by
  unfold dispatchSecondary
  split
  · have h := OnlyUnit.dispatch (secondaryCall u (s.dev u).secondary) s
    rwa [secondaryCall_unit] at h
  · exact OnlyUnit.refl u s

theorem cmdListen_onlyUnit (u : UnitNo) (s : State) : OnlyUnit u s (cmdListen u s) :=
  (OnlyUnit.updDev u _ s).trans (dispatchSecondary_onlyUnit u _)

theorem cmdTalk_onlyUnit (u : UnitNo) (s : State) : OnlyUnit u s (cmdTalk u s) :=
  (OnlyUnit.updDev u _ s).trans (dispatchSecondary_onlyUnit u _)

theorem cmdUnlisten_onlyUnit (u : UnitNo) (s : State) : OnlyUnit u s (cmdUnlisten u s) := by
  unfold cmdUnlisten
  dsimp only
  split
  · exact (OnlyUnit.updDev u _ s).trans (OnlyUnit.dispatch (.unlisten u _ _) _)
  · exact (cmdNone_becomes u s).1.1

theorem cmdUntalk_onlyUnit (u : UnitNo) (s : State) : OnlyUnit u s (cmdUntalk u s) := by
  unfold cmdUntalk
  dsimp only
  split
  · exact (OnlyUnit.updDev u _ s).trans (OnlyUnit.dispatch (.untalk u _ _) _)
  · exact (cmdNone_becomes u s).1.1

theorem primaryCommand_onlyUnit (u : UnitNo) (s : State) : OnlyUnit u s (primaryCommand u s) := by
  unfold primaryCommand
  split
  · split
    · exact cmdListen_onlyUnit u s
    · exact cmdTalk_onlyUnit u s
    · exact cmdUnlisten_onlyUnit u s
    · exact cmdUntalk_onlyUnit u s
    · exact (cmdNone_becomes u s).1.1
  · exact (cmdNone_becomes u s).1.1

theorem atnReturn_onlyUnit (u : UnitNo) (now : Clock) (s : State) : OnlyUnit u s (atnReturn u now s) :=
  ((OnlyUnit.updDev u _ s).trans (primaryCommand_onlyUnit u _)).trans (regimeEntry_becomes u now _).1.1

theorem clearUnit_becomes (u : UnitNo) (s : State) :
    QuietlyBecomes u clearedDevice ⟨false, false⟩ s (clearUnit s u) :=
  ⟨⟨(OnlyUnit.updDev u _ s).trans (OnlyUnit.fabricWrite u _ _ _), by simp [clearUnit], by simp [clearUnit]⟩,
    rfl, rfl⟩

/-! ### Rows, the clock and the port -/

theorem clockBack_eq_none {s : State} {now : Clock} (h : ClockOk s now) : s.clockBack now = none := by
  unfold State.clockBack
  split
  · next p hw hl =>
    exact if_neg (Nat.not_lt.mpr (h hw p hl))
  · rfl

theorem clockBack_eq_some {s : State} {now p : Clock} :
    s.clockBack now = some p ↔ s.cfg.clockW = none ∧ s.lastNow = some p ∧ now < p := by
  unfold State.clockBack
  split
  · next q hw hl =>
    split
    · next hlt =>
      simp only [hw, hl, Option.some.injEq, true_and]
      constructor
      · rintro rfl
        exact ⟨rfl, hlt⟩
      · exact fun h => h.1
    · next hlt =>
      simp only [hw, hl, Option.some.injEq, true_and, false_iff, reduceCtorEq]
      rintro ⟨rfl, h⟩
      exact hlt h
  · next h =>
    simp only [reduceCtorEq, false_iff]
    rintro ⟨hw, hl, -⟩
    exact h p hw hl

theorem active_of_stepped {s : State} {u : UnitNo} (h : Stepped s u) : s.active u = true := by
  obtain ⟨h1, h2, h3⟩ := h
  simp [State.active, inRange, h1, h2, h3]

theorem rowStep_selected {x : StepCtx} {sel : Bool} {body : State → State} {s : State}
    (hu : Stepped s x.unit) (hc : ClockOk s x.now) (hs : sel = true) :
    rowStep x sel body s = .next (body s) := by
  simp [rowStep, clockBack_eq_none hc, active_of_stepped hu, hs]

/-- All a row run by itself can answer. -/
theorem rowStep_cases {x : StepCtx} {sel : Bool} {body : State → State} {s t : State}
    (h : rowStep x sel body s = .next t) :
    (s.active x.unit = true ∧ sel = true ∧ t = body s) ∨
      ((s.active x.unit = false ∨ sel = false) ∧ t = s) := by
  unfold rowStep at h
  split at h
  · cases h
  · cases ha : s.active x.unit <;> cases hs : sel <;> simp_all

theorem fetch_nil {s : State} (h : s.port = []) : fetch s = (idleWord, s) := by
  unfold fetch; rw [h]

theorem fetch_cons {s : State} {e : PortEntry} {rest : List PortEntry} (h : s.port = e :: rest) :
    fetch s = (e.word, { s with port := rest, m := e.m }) := by
  unfold fetch; rw [h]

/-! ### The units of a configuration -/

theorem mem_allUnits (u : UnitNo) : u ∈ allUnits := by
  revert u; decide

theorem mem_unitsOf {cfg : Config} {u : UnitNo} : u ∈ unitsOf cfg ↔ inRange cfg u = true := by
  simp [unitsOf, mem_allUnits]

theorem unitsOf_ascending (cfg : Config) : (unitsOf cfg).Pairwise (· < ·) := by
  have h : allUnits.Pairwise (· < ·) := by decide
  exact h.filter _

theorem unitOperand_eq_some {cfg : Config} {i : Int} {u : UnitNo} :
    unitOperand cfg i = some u ↔ inRange cfg u = true ∧ (u.val : Int) = i := by
  unfold unitOperand inRange
  split
  · next h =>
    constructor
    · rintro ⟨⟩
      obtain ⟨h1, h2⟩ := h
      refine ⟨?_, by simp; omega⟩
      simp only [Bool.and_eq_true, decide_eq_true_eq, Fin.le_def]
      omega
    · rintro ⟨-, hi⟩
      simp only [Option.some.injEq]
      apply Fin.ext
      simp only
      omega
  · next h =>
    constructor
    · intro hh; cases hh
    · rintro ⟨hr, hi⟩
      simp only [Bool.and_eq_true, decide_eq_true_eq, Fin.le_def] at hr
      exact absurd ⟨by omega, by omega⟩ h

end Sys2Proof.Machine
end

