-- ==== Sys2Proof/Laws/PerInstr.lean ====
section
/-! SUPPORT. Per-instruction laws. `TableRow`: the encoder's word of an instruction has the format, the mask and
the match of its row in spec/opcode_table.json. -/

set_option Elab.async false

namespace Sys2Proof.Laws.TableRow

/-- Format, mask and match of the row, as spec/opcode_table.json prints them. OTHER and DATA print no mask; the
two ATN events print the pair `fs` (unit flag, snapshot level). -/
def row : Instr → Format × BitVec 8 × BitVec 8
  | .listen _ _ => (.p, 0xE0, 0x20)
  | .unlisten _ => (.p, 0xFF, 0x3F)
  | .talk _ _ => (.p, 0xE0, 0x40)
  | .untalk _ => (.p, 0xFF, 0x5F)
  | .other _ _ => (.p, 0x00, 0x00)
  | .openCmd _ _ => (.s, 0xF0, 0xF0)
  | .closeCmd _ _ => (.s, 0xF0, 0xE0)
  | .dataCmd _ _ _ => (.s, 0x00, 0x00)
  | .atnFall _ => (.ev, 0x03, 0x00)
  | .atnRise _ => (.ev, 0x03, 0x03)
  | .nop => (.ctl, 0x07, 0x00)
  | .init => (.ctl, 0x07, 0x01)
  | .enable _ => (.ctl, 0x07, 0x02)
  | .disable _ => (.ctl, 0x07, 0x03)
  | .reset => (.ctl, 0x07, 0x04)
  | .exec _ => (.ctl, 0x07, 0x05)
  | .fread => (.fab, 0x01, 0x00)
  | .fwrite _ _ _ => (.fab, 0x01, 0x01)
  | .dispOpen _ _ => (.dsp, 0x07, 0x00)
  | .dispClose _ _ => (.dsp, 0x07, 0x01)
  | .dispChannelCommand _ _ => (.dsp, 0x07, 0x02)
  | .dispWrite _ _ _ => (.dsp, 0x07, 0x03)
  | .dispRead _ _ => (.dsp, 0x07, 0x04)
  | .dispUnlisten _ _ _ => (.dsp, 0x07, 0x05)
  | .dispUntalk _ _ _ => (.dsp, 0x07, 0x06)
  | .rxPre0 _ => (.rx, 0x1F, 0x00)
  | .rxPre1 _ => (.rx, 0x1F, 0x01)
  | .rxReady _ => (.rx, 0x1F, 0x02)
  | .rxEoi _ => (.rx, 0x1F, 0x03)
  | .rxEoiw _ => (.rx, 0x1F, 0x04)
  | .rxBit0 _ => (.rx, 0x1F, 0x05)
  | .rxBitw0 _ => (.rx, 0x1F, 0x06)
  | .rxBit1 _ => (.rx, 0x1F, 0x07)
  | .rxBitw1 _ => (.rx, 0x1F, 0x08)
  | .rxBit2 _ => (.rx, 0x1F, 0x09)
  | .rxBitw2 _ => (.rx, 0x1F, 0x0A)
  | .rxBit3 _ => (.rx, 0x1F, 0x0B)
  | .rxBitw3 _ => (.rx, 0x1F, 0x0C)
  | .rxBit4 _ => (.rx, 0x1F, 0x0D)
  | .rxBitw4 _ => (.rx, 0x1F, 0x0E)
  | .rxBit5 _ => (.rx, 0x1F, 0x0F)
  | .rxBitw5 _ => (.rx, 0x1F, 0x10)
  | .rxBit6 _ => (.rx, 0x1F, 0x11)
  | .rxBitw6 _ => (.rx, 0x1F, 0x12)
  | .rxBit7 _ => (.rx, 0x1F, 0x13)
  | .rxBitw7Atn _ => (.rx, 0x1F, 0x14)
  | .rxBitw7Listen _ => (.rx, 0x1F, 0x14)
  | .rxDone0 _ => (.rx, 0x1F, 0x15)
  | .rxDone1 _ => (.rx, 0x1F, 0x16)
  | .rxRetry0 _ => (.rx, 0x1F, 0x17)
  | .rxRetry1 _ => (.rx, 0x1F, 0x18)
  | .txPre0 _ => (.tx, 0x1F, 0x00)
  | .txPre1 _ => (.tx, 0x1F, 0x01)
  | .txReady _ => (.tx, 0x1F, 0x02)
  | .txEoi _ => (.tx, 0x1F, 0x03)
  | .txEoiw _ => (.tx, 0x1F, 0x04)
  | .txBit0 _ => (.tx, 0x1F, 0x05)
  | .txBitw0 _ => (.tx, 0x1F, 0x06)
  | .txBit1 _ => (.tx, 0x1F, 0x07)
  | .txBitw1 _ => (.tx, 0x1F, 0x08)
  | .txBit2 _ => (.tx, 0x1F, 0x09)
  | .txBitw2 _ => (.tx, 0x1F, 0x0A)
  | .txBit3 _ => (.tx, 0x1F, 0x0B)
  | .txBitw3 _ => (.tx, 0x1F, 0x0C)
  | .txBit4 _ => (.tx, 0x1F, 0x0D)
  | .txBitw4 _ => (.tx, 0x1F, 0x0E)
  | .txBit5 _ => (.tx, 0x1F, 0x0F)
  | .txBitw5 _ => (.tx, 0x1F, 0x10)
  | .txBit6 _ => (.tx, 0x1F, 0x11)
  | .txBitw6 _ => (.tx, 0x1F, 0x12)
  | .txBit7 _ => (.tx, 0x1F, 0x13)
  | .txBitw7 _ => (.tx, 0x1F, 0x14)
  | .txDone0 _ => (.tx, 0x1F, 0x15)
  | .txDone1 _ => (.tx, 0x1F, 0x16)
  | .txRetry0 _ => (.tx, 0x1F, 0x17)
  | .txRetry1 _ => (.tx, 0x1F, 0x18)

/-- The encoder's word has its row's format and, under the row's mask, its row's match. -/
def Statement (i : Instr) : Prop :=
  (encode i).fmt = (row i).1 ∧ (encode i).code &&& (row i).2.1 = (row i).2.2

theorem listen (u : UnitNo) (a : BitVec 5) : Statement (.listen u a) := ⟨rfl, by simp only [encode, row]; revert a; decide⟩
theorem unlisten (u : UnitNo) : Statement (.unlisten u) := ⟨rfl, by simp only [encode, row]; decide⟩
theorem talk (u : UnitNo) (a : BitVec 5) : Statement (.talk u a) := ⟨rfl, by simp only [encode, row]; revert a; decide⟩
theorem untalk (u : UnitNo) : Statement (.untalk u) := ⟨rfl, by simp only [encode, row]; decide⟩
theorem other (u : UnitNo) (p : Byte) : Statement (.other u p) := ⟨rfl, BitVec.and_zero⟩
theorem openCmd (u : UnitNo) (c : Channel) : Statement (.openCmd u c) := ⟨rfl, by simp only [encode, row]; revert c; decide⟩
theorem closeCmd (u : UnitNo) (c : Channel) : Statement (.closeCmd u c) := ⟨rfl, by simp only [encode, row]; revert c; decide⟩
theorem dataCmd (u : UnitNo) (k : BitVec 4) (c : Channel) : Statement (.dataCmd u k c) := ⟨rfl, BitVec.and_zero⟩
theorem atnFall (x : StepCtx) : Statement (.atnFall x) := ⟨rfl, by simp only [encode, row, stepWord]; decide⟩
theorem atnRise (x : StepCtx) : Statement (.atnRise x) := ⟨rfl, by simp only [encode, row, stepWord]; decide⟩
theorem nop : Statement (.nop) := ⟨rfl, by simp only [encode, row]; decide⟩
theorem init : Statement (.init) := ⟨rfl, by simp only [encode, row]; decide⟩
theorem enable (u : Int) : Statement (.enable u) := ⟨rfl, by simp only [encode, row]; decide⟩
theorem disable (u : Int) : Statement (.disable u) := ⟨rfl, by simp only [encode, row]; decide⟩
theorem reset : Statement (.reset) := ⟨rfl, by simp only [encode, row]; decide⟩
theorem exec (now : Clock) : Statement (.exec now) := ⟨rfl, by simp only [encode, row]; decide⟩
theorem fread : Statement (.fread) := ⟨rfl, by simp only [encode, row]; decide⟩
theorem fwrite (u : UnitNo) (cl dl : Bool) : Statement (.fwrite u cl dl) := ⟨rfl, by simp only [encode, row]; decide⟩
theorem dispOpen (u : UnitNo) (c : Channel) : Statement (.dispOpen u c) := ⟨rfl, by simp only [encode, row]; decide⟩
theorem dispClose (u : UnitNo) (c : Channel) : Statement (.dispClose u c) := ⟨rfl, by simp only [encode, row]; decide⟩
theorem dispChannelCommand (u : UnitNo) (c : Channel) : Statement (.dispChannelCommand u c) := ⟨rfl, by simp only [encode, row]; decide⟩
theorem dispWrite (u : UnitNo) (c : Channel) (b : Byte) : Statement (.dispWrite u c b) := ⟨rfl, by simp only [encode, row]; decide⟩
theorem dispRead (u : UnitNo) (c : Channel) : Statement (.dispRead u c) := ⟨rfl, by simp only [encode, row]; decide⟩
theorem dispUnlisten (u : UnitNo) (c : Channel) (p : Byte) : Statement (.dispUnlisten u c p) := ⟨rfl, by simp only [encode, row]; decide⟩
theorem dispUntalk (u : UnitNo) (c : Channel) (p : Byte) : Statement (.dispUntalk u c p) := ⟨rfl, by simp only [encode, row]; decide⟩
theorem rxPre0 (x : StepCtx) : Statement (.rxPre0 x) := ⟨rfl, by simp only [encode, row, stepWord]; decide⟩
theorem rxPre1 (x : StepCtx) : Statement (.rxPre1 x) := ⟨rfl, by simp only [encode, row, stepWord]; decide⟩
theorem rxReady (x : StepCtx) : Statement (.rxReady x) := ⟨rfl, by simp only [encode, row, stepWord]; decide⟩
theorem rxEoi (x : StepCtx) : Statement (.rxEoi x) := ⟨rfl, by simp only [encode, row, stepWord]; decide⟩
theorem rxEoiw (x : StepCtx) : Statement (.rxEoiw x) := ⟨rfl, by simp only [encode, row, stepWord]; decide⟩
theorem rxBit0 (x : StepCtx) : Statement (.rxBit0 x) := ⟨rfl, by simp only [encode, row, stepWord]; decide⟩
theorem rxBitw0 (x : StepCtx) : Statement (.rxBitw0 x) := ⟨rfl, by simp only [encode, row, stepWord]; decide⟩
theorem rxBit1 (x : StepCtx) : Statement (.rxBit1 x) := ⟨rfl, by simp only [encode, row, stepWord]; decide⟩
theorem rxBitw1 (x : StepCtx) : Statement (.rxBitw1 x) := ⟨rfl, by simp only [encode, row, stepWord]; decide⟩
theorem rxBit2 (x : StepCtx) : Statement (.rxBit2 x) := ⟨rfl, by simp only [encode, row, stepWord]; decide⟩
theorem rxBitw2 (x : StepCtx) : Statement (.rxBitw2 x) := ⟨rfl, by simp only [encode, row, stepWord]; decide⟩
theorem rxBit3 (x : StepCtx) : Statement (.rxBit3 x) := ⟨rfl, by simp only [encode, row, stepWord]; decide⟩
theorem rxBitw3 (x : StepCtx) : Statement (.rxBitw3 x) := ⟨rfl, by simp only [encode, row, stepWord]; decide⟩
theorem rxBit4 (x : StepCtx) : Statement (.rxBit4 x) := ⟨rfl, by simp only [encode, row, stepWord]; decide⟩
theorem rxBitw4 (x : StepCtx) : Statement (.rxBitw4 x) := ⟨rfl, by simp only [encode, row, stepWord]; decide⟩
theorem rxBit5 (x : StepCtx) : Statement (.rxBit5 x) := ⟨rfl, by simp only [encode, row, stepWord]; decide⟩
theorem rxBitw5 (x : StepCtx) : Statement (.rxBitw5 x) := ⟨rfl, by simp only [encode, row, stepWord]; decide⟩
theorem rxBit6 (x : StepCtx) : Statement (.rxBit6 x) := ⟨rfl, by simp only [encode, row, stepWord]; decide⟩
theorem rxBitw6 (x : StepCtx) : Statement (.rxBitw6 x) := ⟨rfl, by simp only [encode, row, stepWord]; decide⟩
theorem rxBit7 (x : StepCtx) : Statement (.rxBit7 x) := ⟨rfl, by simp only [encode, row, stepWord]; decide⟩
theorem rxBitw7Atn (x : StepCtx) : Statement (.rxBitw7Atn x) := ⟨rfl, by simp only [encode, row, stepWord]; decide⟩
theorem rxBitw7Listen (x : StepCtx) : Statement (.rxBitw7Listen x) := ⟨rfl, by simp only [encode, row, stepWord]; decide⟩
theorem rxDone0 (x : StepCtx) : Statement (.rxDone0 x) := ⟨rfl, by simp only [encode, row, stepWord]; decide⟩
theorem rxDone1 (x : StepCtx) : Statement (.rxDone1 x) := ⟨rfl, by simp only [encode, row, stepWord]; decide⟩
theorem rxRetry0 (x : StepCtx) : Statement (.rxRetry0 x) := ⟨rfl, by simp only [encode, row, stepWord]; decide⟩
theorem rxRetry1 (x : StepCtx) : Statement (.rxRetry1 x) := ⟨rfl, by simp only [encode, row, stepWord]; decide⟩
theorem txPre0 (x : StepCtx) : Statement (.txPre0 x) := ⟨rfl, by simp only [encode, row, stepWord]; decide⟩
theorem txPre1 (x : StepCtx) : Statement (.txPre1 x) := ⟨rfl, by simp only [encode, row, stepWord]; decide⟩
theorem txReady (x : StepCtx) : Statement (.txReady x) := ⟨rfl, by simp only [encode, row, stepWord]; decide⟩
theorem txEoi (x : StepCtx) : Statement (.txEoi x) := ⟨rfl, by simp only [encode, row, stepWord]; decide⟩
theorem txEoiw (x : StepCtx) : Statement (.txEoiw x) := ⟨rfl, by simp only [encode, row, stepWord]; decide⟩
theorem txBit0 (x : StepCtx) : Statement (.txBit0 x) := ⟨rfl, by simp only [encode, row, stepWord]; decide⟩
theorem txBitw0 (x : StepCtx) : Statement (.txBitw0 x) := ⟨rfl, by simp only [encode, row, stepWord]; decide⟩
theorem txBit1 (x : StepCtx) : Statement (.txBit1 x) := ⟨rfl, by simp only [encode, row, stepWord]; decide⟩
theorem txBitw1 (x : StepCtx) : Statement (.txBitw1 x) := ⟨rfl, by simp only [encode, row, stepWord]; decide⟩
theorem txBit2 (x : StepCtx) : Statement (.txBit2 x) := ⟨rfl, by simp only [encode, row, stepWord]; decide⟩
theorem txBitw2 (x : StepCtx) : Statement (.txBitw2 x) := ⟨rfl, by simp only [encode, row, stepWord]; decide⟩
theorem txBit3 (x : StepCtx) : Statement (.txBit3 x) := ⟨rfl, by simp only [encode, row, stepWord]; decide⟩
theorem txBitw3 (x : StepCtx) : Statement (.txBitw3 x) := ⟨rfl, by simp only [encode, row, stepWord]; decide⟩
theorem txBit4 (x : StepCtx) : Statement (.txBit4 x) := ⟨rfl, by simp only [encode, row, stepWord]; decide⟩
theorem txBitw4 (x : StepCtx) : Statement (.txBitw4 x) := ⟨rfl, by simp only [encode, row, stepWord]; decide⟩
theorem txBit5 (x : StepCtx) : Statement (.txBit5 x) := ⟨rfl, by simp only [encode, row, stepWord]; decide⟩
theorem txBitw5 (x : StepCtx) : Statement (.txBitw5 x) := ⟨rfl, by simp only [encode, row, stepWord]; decide⟩
theorem txBit6 (x : StepCtx) : Statement (.txBit6 x) := ⟨rfl, by simp only [encode, row, stepWord]; decide⟩
theorem txBitw6 (x : StepCtx) : Statement (.txBitw6 x) := ⟨rfl, by simp only [encode, row, stepWord]; decide⟩
theorem txBit7 (x : StepCtx) : Statement (.txBit7 x) := ⟨rfl, by simp only [encode, row, stepWord]; decide⟩
theorem txBitw7 (x : StepCtx) : Statement (.txBitw7 x) := ⟨rfl, by simp only [encode, row, stepWord]; decide⟩
theorem txDone0 (x : StepCtx) : Statement (.txDone0 x) := ⟨rfl, by simp only [encode, row, stepWord]; decide⟩
theorem txDone1 (x : StepCtx) : Statement (.txDone1 x) := ⟨rfl, by simp only [encode, row, stepWord]; decide⟩
theorem txRetry0 (x : StepCtx) : Statement (.txRetry0 x) := ⟨rfl, by simp only [encode, row, stepWord]; decide⟩
theorem txRetry1 (x : StepCtx) : Statement (.txRetry1 x) := ⟨rfl, by simp only [encode, row, stepWord]; decide⟩

end Sys2Proof.Laws.TableRow
end

