-- ==== Sys2Proof/Certificates/Slice0/Obligations.lean ====
section
/-! DEFINITION. The statements about the model, for the provers. Rules R<n> are those of spec/; a statement that
says a choice of the model names its log entry. -/

open Sys2Proof Sys2Proof.Machine

/-! ### The step and the encodings -/

/-- One step takes the next operation at the port, with the master's drive of that moment, decodes it and runs
it; with none pending it does nothing; a word that is no instruction is refused by name. The port is the
model's (notes/assumptions/2.md, 15.md); R110, R84. -/
def Obligations.StepRunsTheNextOperation : Prop :=
  ∀ s : State,
    (s.port = [] → step s = .next s) ∧
    ∀ e rest, s.port = e :: rest →
      (∀ i, decode e.word = .ok i → step s = exec i { s with port := rest, m := e.m }) ∧
      (∀ err, decode e.word = .error err → step s = .refused (.noInstruction err))

/-- A few words written out from the encodings of 30_encoding.md decode to their instructions. -/
def Obligations.SampleWordsDecode : Prop :=
  decode { fmt := .p, code := 0b00101000#8, unit := 8 } = .ok (.listen 8 8#5) ∧
  decode { fmt := .p, code := 0b01001001#8, unit := 9 } = .ok (.talk 9 9#5) ∧
  decode { fmt := .p, code := 0b00111111#8, unit := 9 } = .ok (.unlisten 9) ∧
  decode { fmt := .s, code := 0b11110010#8, unit := 8 } = .ok (.openCmd 8 2) ∧
  decode { fmt := .s, code := 0b11100101#8, unit := 8 } = .ok (.closeCmd 8 5) ∧
  decode { fmt := .ctl, code := 0b101#8, now := 7 } = .ok (.exec 7) ∧
  decode { fmt := .dsp, code := 0b100#8, unit := 9, chan := 0 } = .ok (.dispRead 9 0) ∧
  decode { fmt := .tx, code := 0b10110#8, unit := 9, now := 5 } = .ok (.txDone1 ⟨9, ⟨false, false, false⟩, 5⟩)

/-- Decoding the word of a well-formed instruction gives the instruction back, for every row of the table and
every operand (R70, R74, R83 to R86). -/
def Obligations.DecodeOfEncode : Prop :=
  ∀ i : Instr, i.wellFormed = true → decode (encode i) = .ok i

/-- The decoder answers only well-formed instructions: a byte that belongs to another row is never read as an
operand (R70 to R75). -/
def Obligations.DecodedInstructionsAreWellFormed : Prop :=
  ∀ w i, decode w = .ok i → i.wellFormed = true

/-- The complete map of the 256 primary bytes, decoded for unit `u`, agrees with `PClass(p, u)`, by which the
unit acts and acknowledges (R70 to R73). -/
def Obligations.PrimaryMapAgreesWithTheUnit : Prop :=
  ∀ (u : UnitNo) (p : Byte),
    match decodePrimary u p with
    | .listen v a => v = u ∧ p.toNat = 0x20 + a.toNat ∧
        pClass p u = if a.toNat = u.val then .listenMe else .other
    | .talk v a   => v = u ∧ p.toNat = 0x40 + a.toNat ∧
        pClass p u = if a.toNat = u.val then .talkMe else .other
    | .unlisten v => v = u ∧ p = 0x3F#8 ∧ pClass p u = .unlisten
    | .untalk v   => v = u ∧ p = 0x5F#8 ∧ pClass p u = .untalk
    | .other v q  => v = u ∧ q = p ∧ (p.toNat < 0x20 ∨ 0x60 ≤ p.toNat) ∧ pClass p u = .other
    | _           => False

/-- The complete map of the 256 secondary bytes: what is decoded, and the Dispatcher call it selects (R74,
R75). -/
def Obligations.SecondaryMapSelectsTheCall : Prop :=
  ∀ (u : UnitNo) (b : Byte),
    match decodeSecondary u b with
    | .openCmd v c   => v = u ∧ b.toNat = 0xF0 + c.val ∧ secondaryCall u b = .openCall u c
    | .closeCmd v c  => v = u ∧ b.toNat = 0xE0 + c.val ∧ secondaryCall u b = .closeCall u c
    | .dataCmd v k c => v = u ∧ b.toNat = 16 * k.toNat + c.val ∧ k.toNat < 0xE ∧
        secondaryCall u b = .channelCommand u c
    | _              => False

/-- The elapsed time: the difference with the unbounded clock (R12 (a)); with a clock of `w` bits, the amount
below `2^w` that leads from the stamp to the present modulo `2^w` (R220, notes/assumptions/11.md). -/
def Obligations.ElapsedIsTheClockDifference : Prop :=
  (∀ now stamp, stamp ≤ now → stamp + elapsed none now stamp = now) ∧
  ∀ w now stamp, elapsed (some w) now stamp < 2 ^ w ∧
    (stamp + elapsed (some w) now stamp) % 2 ^ w = now % 2 ^ w

/-! ### Reset and the invariant -/

/-- The power-on values of every field of the block's state (R38, R235). The values beyond the enabled bits, the
flags, the status table and the lines are the spec's own choice (notes/assumptions/14.md). -/
def Obligations.ResetIsPowerOn : Prop :=
  State.reset.initialized = false ∧
  ∀ u, State.reset.slot u = ⟨false, false⟩ ∧
    (State.reset.dev u).enabled = false ∧ (State.reset.dev u).atn = false ∧
    (State.reset.dev u).listening = false ∧ (State.reset.dev u).talking = false ∧
    (State.reset.dev u).phase = .pre0 ∧ (State.reset.dev u).cursor = 0 ∧
    (State.reset.dev u).byte = 0x00#8 ∧ (State.reset.dev u).primary = 0x00#8 ∧
    (State.reset.dev u).secondary = 0x00#8 ∧ (State.reset.dev u).secPrev = 0x00#8 ∧
    (State.reset.dev u).addrCount = 0 ∧ (State.reset.dev u).stamp = 0 ∧
    ∀ c : Channel, State.reset.statusOf u c = 0x00#8

/-- The power-on state meets the invariant. -/
def Obligations.ResetMeetsTheInvariant : Prop := BlockInv State.reset

/-- Every step keeps the invariant of the block under its host loop: a disabled unit drives nothing and has no
flag (R36 (c)), listening and talking exclude one another (R36 (d)), the drive is that of the regime and
the phase (R37), address bytes not yet captured are zero under ATN (R27), an enabled unit is in range
and the controller initialized (R117), no stamp is ahead of the clock (R31). -/
def Obligations.StepKeepsTheInvariant : Prop :=
  ∀ s t, BlockInv s → step s = .next t → BlockInv t

/-! ### The fabric -/

/-- FREAD answers the composite levels, a line being low iff the master or a unit's slot drives it low, and
changes no state of the block: only the model's output latch (R100, R103; notes/assumptions/9.md). -/
def Obligations.FabricReadIsWiredAnd : Prop :=
  ∀ s : State, ∃ t, exec .fread s = .next t ∧ t = { s with readout := t.readout } ∧
    (t.readout.clk = false ↔
      s.m.clkLow = true ∨ ∃ u, s.cfg.unitMin ≤ u ∧ u ≤ s.cfg.unitMax ∧ (s.slot u).clkLow = true) ∧
    (t.readout.data = false ↔
      s.m.dataLow = true ∨ ∃ u, s.cfg.unitMin ≤ u ∧ u ≤ s.cfg.unitMax ∧ (s.slot u).dataLow = true) ∧
    (t.readout.atn = false ↔ s.m.atnLow = true)

/-- FWRITE replaces both bits of its slot and changes nothing else (R101, R57). That the row issued by itself acts
for every unit of the block, enabled or not, is the model's choice (notes/assumptions/20.md); so is that nothing
changes for a unit number outside the range, which the spec says never arrives (notes/assumptions/6.md). -/
def Obligations.FabricWriteReplacesOneSlot : Prop :=
  ∀ (s : State) (u : UnitNo) (cl dl : Bool), ∃ t, exec (.fwrite u cl dl) s = .next t ∧
    (inRange s.cfg u = true → QuietlyBecomes u (s.dev u) ⟨cl, dl⟩ s t) ∧
    (inRange s.cfg u = false → t = s)

/-- Two units drive DATA low, or CLK low. When one releases the line it stays low; when the other releases it too,
the line is high iff nobody else drives it (R102 (a)). The releases are rows issued by themselves
(notes/assumptions/20.md). -/
def Obligations.LastDriverReleasesTheLine : Prop :=
  ∀ (s : State) (u v : UnitNo), inRange s.cfg u = true → inRange s.cfg v = true → u ≠ v →
    ∃ t r, exec (.fwrite u false false) s = .next t ∧ exec (.fwrite v false false) t = .next r ∧
      ((s.slot u).dataLow = true → (s.slot v).dataLow = true →
        t.fabricRead.data = false ∧
        (r.fabricRead.data = true ↔
          s.m.dataLow = false ∧
            ∀ w, inRange s.cfg w = true → w ≠ u → w ≠ v → (s.slot w).dataLow = false)) ∧
      ((s.slot u).clkLow = true → (s.slot v).clkLow = true →
        t.fabricRead.clk = false ∧
        (r.fabricRead.clk = true ↔
          s.m.clkLow = false ∧
            ∀ w, inRange s.cfg w = true → w ≠ u → w ≠ v → (s.slot w).clkLow = false))

/-- The order in which two slots were written has no influence on the state, so none on the lines (R102 (c)). -/
def Obligations.SlotWriteOrderIsImmaterial : Prop :=
  ∀ (s : State) (u v : UnitNo) (a b c d : Bool), u ≠ v →
    (s.fabricWrite u a b).fabricWrite v c d = (s.fabricWrite v c d).fabricWrite u a b

/-- The ATN level is the master's input alone, and no instruction, so no unit's step, asserts, holds or releases it
(R103); nor does any change the master's drive, an input of the block (R34, R237), the configuration record
(R64), or the operations that wait at the port, which is the model's own (notes/assumptions/2.md). -/
def Obligations.NoInstructionTouchesConfigOrMaster : Prop :=
  ∀ i s t, exec i s = .next t →
    t.cfg = s.cfg ∧ t.m = s.m ∧ t.port = s.port ∧
    t.fabricRead.atn = s.fabricRead.atn ∧ t.fabricRead.atn = !s.m.atnLow

/-! ### The controller -/

/-- NOP changes nothing (R84). -/
def Obligations.NopDoesNothing : Prop := ∀ s : State, exec .nop s = .next s

/-- `init` on an initialized controller does nothing; otherwise it releases every slot of the block and sets
`initialized`, and touches no DeviceState (R111). -/
def Obligations.InitReleasesEverySlotOnce : Prop :=
  ∀ s : State,
    (s.initialized = true → exec .init s = .next s) ∧
    (s.initialized = false → ∃ t, exec .init s = .next t ∧
      t = { s with initialized := true, slots := t.slots } ∧
      ∀ u, t.slot u = if inRange s.cfg u then ⟨false, false⟩ else s.slot u)

/-- `enable`: out of range, nothing but the result; already enabled, nothing but the result; else the unit is
cleared, released and enabled, the controller initialized (releasing all slots if it was not), the other
units and everything else as before (R112, R113). -/
def Obligations.EnableRejectsOrClears : Prop :=
  ∀ (s : State) (i : Int),
    (i < (s.cfg.unitMin.val : Int) ∨ (s.cfg.unitMax.val : Int) < i →
      exec (.enable i) s = .next { s with enableResult := some .errRange }) ∧
    ∀ u : UnitNo, (u.val : Int) = i → inRange s.cfg u = true →
      ((s.dev u).enabled = true → s.initialized = true →
        exec (.enable i) s = .next { s with enableResult := some .errAlready }) ∧
      ((s.dev u).enabled = false → ∃ t, exec (.enable i) s = .next t ∧
        t = { s with initialized := true, enableResult := some .ok, devs := t.devs, slots := t.slots } ∧
        t.dev u = { enabled := true, atn := false, listening := false, talking := false, phase := .pre0,
                    cursor := 0, byte := 0#8, primary := 0#8, secondary := 0#8, secPrev := 0#8,
                    addrCount := 0, status := Vector.replicate 16 0#8, stamp := 0 } ∧
        t.slot u = ⟨false, false⟩ ∧
        ∀ v, v ≠ u → t.dev v = s.dev v ∧
          t.slot v = if s.initialized = false ∧ inRange s.cfg v = true then ⟨false, false⟩ else s.slot v)

/-- `disable` of an enabled unit clears its flags, sets PRE0 and releases its lines, keeping the other fields; out
of range or already disabled it does nothing; a second `disable` never changes anything (R114, P3). -/
def Obligations.DisableReleasesAndIsIdempotent : Prop :=
  ∀ (s : State) (i : Int),
    (i < (s.cfg.unitMin.val : Int) ∨ (s.cfg.unitMax.val : Int) < i → exec (.disable i) s = .next s) ∧
    (∀ u : UnitNo, (u.val : Int) = i → inRange s.cfg u = true →
      ((s.dev u).enabled = false → exec (.disable i) s = .next s) ∧
      ((s.dev u).enabled = true → ∃ t, exec (.disable i) s = .next t ∧
        QuietlyBecomes u
          { s.dev u with enabled := false, atn := false, listening := false, talking := false, phase := .pre0 }
          ⟨false, false⟩ s t)) ∧
    ∀ t, exec (.disable i) s = .next t → exec (.disable i) t = .next t

/-- `reset` puts every enabled unit to its cleared state, still enabled, with its lines released, and touches
nothing else (R115). -/
def Obligations.ResetClearsEnabledUnits : Prop :=
  ∀ s : State, ∃ t, exec .reset s = .next t ∧
    t = { s with devs := t.devs, slots := t.slots } ∧
    ∀ u, (Stepped s u → t.dev u = { DeviceState.powerOn with enabled := true } ∧ t.slot u = ⟨false, false⟩) ∧
      (¬ Stepped s u → t.dev u = s.dev u ∧ t.slot u = s.slot u)

/-- `exec` on an initialized controller, with a clock that does not go backwards, completes: every enabled unit
of the block has taken exactly its own unit step on the one snapshot read before any unit stepped,
whatever the units before it did: only the Dispatcher's side can differ, by the calls of the lower unit
numbers, and the calls of the higher ones follow. Everything else is as before (R60, R61, R116, R118). The recorded clock is the model's (notes/assumptions/10.md). -/
def Obligations.ExecStepsEachEnabledUnitOnOneSnapshot : Prop :=
  ∀ (s : State) (now : Clock), s.initialized = true → ClockOk s now →
    ∃ t, exec (.exec now) s = .next t ∧
      t = { s with lastNow := some now, devs := t.devs, slots := t.slots, answers := t.answers,
                   calls := t.calls } ∧
      ∀ u,
        (Stepped s u → ∃ r : State, r.dev u = s.dev u ∧ r.slot u = s.slot u ∧ r.cfg = s.cfg ∧
          (∃ new, r.calls = new ++ s.calls ∧ r.answers = s.answers.drop new.length ∧
            ∀ k ∈ new, k.call.unit < u) ∧
          (∃ later, t.calls = later ++ (unitStep u s.fabricRead now r).calls ∧
            ∀ k ∈ later, u < k.call.unit) ∧
          t.dev u = (unitStep u s.fabricRead now r).dev u ∧
          t.slot u = (unitStep u s.fabricRead now r).slot u) ∧
        (¬ Stepped s u → t.dev u = s.dev u ∧ t.slot u = s.slot u)

/-- `exec` before initialization does nothing to the block (R117, R240); on an initialized controller a clock
smaller than that of the previous `exec` is refused (R245; U1; notes/assumptions/10.md). -/
def Obligations.ExecBeforeInitAndBackwardClock : Prop :=
  ∀ (s : State) (now : Clock),
    (s.initialized = false → exec (.exec now) s = .next { s with lastNow := some now }) ∧
    ∀ p, s.initialized = true → s.cfg.clockW = none → s.lastNow = some p → now < p →
      exec (.exec now) s = .refused (.clockDecreased p now)

/-- The Dispatcher calls of one `exec` come from enabled units in ascending unit number, at most one from each
(R202 (a), (b)); the record keeps the newest first. -/
def Obligations.ExecCallsAscendByUnit : Prop :=
  ∀ (s t : State) (now : Clock), exec (.exec now) s = .next t →
    ∃ new, t.calls = new ++ s.calls ∧
      (new.map fun k => k.call.unit).Pairwise (· > ·) ∧
      ∀ k ∈ new, Stepped s k.call.unit

/-- The controller operations other than `exec` make no Dispatcher call (R202 (g)). -/
def Obligations.LifecycleOperationsMakeNoCall : Prop :=
  ∀ s t i, i = Instr.nop ∨ i = .init ∨ (∃ u, i = .enable u) ∨ (∃ u, i = .disable u) ∨ i = .reset →
    exec i s = .next t → NoCall s t

/-- After an `exec` of an initialized controller the `atn` flag of every enabled unit is the level of the line:
an edge is taken at the next step, once, and cannot be ignored (R125, R214). -/
def Obligations.ExecSettlesEveryAtnEdge : Prop :=
  ∀ (s t : State) (now : Clock), s.initialized = true → exec (.exec now) s = .next t →
    ∀ u, Stepped s u → (t.dev u).atn = s.m.atnLow

/-- A unit becomes a talker only at an ATN rising edge, as an enabled unit whose own TALK byte is the captured
primary; so when no unit talks and all enabled units captured the same primary byte, at most one unit
talks afterwards (R132, P1). It is about `exec`; the row TALK issued by itself (notes/assumptions/5.md) is
outside it. -/
def Obligations.OnlyTheAddressedUnitBecomesTalker : Prop :=
  ∀ (s t : State) (now : Clock), exec (.exec now) s = .next t →
    (∀ u, (s.dev u).talking = false → (t.dev u).talking = true →
      Stepped s u ∧ (s.dev u).atn = true ∧ s.m.atnLow = false ∧ 1 ≤ (s.dev u).addrCount.val ∧
        (s.dev u).primary.toNat = 0x40 + u.val) ∧
    ((∀ u, (s.dev u).talking = false) →
      (∀ u v, Stepped s u → Stepped s v → (s.dev u).primary = (s.dev v).primary) → AtMostOneTalker t)

/-- A status entry changes in an `exec` only by the latch of a call that this `exec` made for that unit and
channel, to the status that call returned (R30, R198, R200). -/
def Obligations.StatusChangesOnlyByLatch : Prop :=
  ∀ (s t : State) (now : Clock), exec (.exec now) s = .next t →
    ∃ new, t.calls = new ++ s.calls ∧
      ∀ u c, t.statusOf u c ≠ s.statusOf u c →
        ∃ k ∈ new, k.call.unit = u ∧ k.call.channel = c ∧ k.answer.status = t.statusOf u c

/-! ### The unit step -/

/-- The step that `exec` gives an enabled unit is the run of the table row that the unit selects: ATNFALL or
ATNRISE on an edge; otherwise the row the decoder reads from the unit's phase code, in the receive format
under ATN or listening and in the transmit format when talking; in the idle regime nothing (R125, R145,
R163, R28). -/
def Obligations.UnitStepIsTheSelectedRow : Prop :=
  ∀ (s : State) (x : StepCtx), Stepped s x.unit → ClockOk s x.now →
    let d := s.dev x.unit
    let t := unitStep x.unit x.snap x.now s
    let code := BitVec.ofNat 8 (phaseCode d.phase d.cursor)
    (d.atn = false ∧ x.snap.atn = false → exec (.atnFall x) s = .next t) ∧
    (d.atn = true ∧ x.snap.atn = true → exec (.atnRise x) s = .next t) ∧
    (d.atn = !x.snap.atn → d.atn = true ∨ d.listening = true →
      ∃ i, decode (stepWord .rx code x d.atn) = .ok i ∧ exec i s = .next t) ∧
    (d.atn = false → x.snap.atn = true → d.listening = false → d.talking = true →
      ∃ i, decode (stepWord .tx code x) = .ok i ∧ exec i s = .next t) ∧
    (d.atn = false → x.snap.atn = true → d.listening = false → d.talking = false → t = s)

/-- A unit's step touches only that unit's DeviceState and slot, and makes at most one Dispatcher call, in that
unit's name (R51, R119, R202 (b)). -/
def Obligations.UnitStepTouchesOnlyItsUnit : Prop :=
  ∀ (s : State) (x : StepCtx),
    let t := unitStep x.unit x.snap x.now s
    OnlyUnit x.unit s t ∧ (NoCall s t ∨ ∃ call, call.unit = x.unit ∧ OneCall call s t)

/-- A phase or edge row issued by itself that is not the one the unit selects changes nothing; of the two rows of
the receive code 20, the one of the other regime is such a row (the model's choice, notes/assumptions/4.md). -/
def Obligations.RowNotSelectedChangesNothing : Prop :=
  ∀ (s : State) (x : StepCtx) (code : BitVec 8) (underAtn : Bool) (i : Instr), ClockOk s x.now →
    let d := s.dev x.unit
    (decode (stepWord .rx code x underAtn) = .ok i →
      (s.active x.unit = false ∨ d.receives x.snap = false ∨ phaseCode d.phase d.cursor ≠ code.toNat ∨
        (code.toNat = 20 ∧ underAtn ≠ d.atn)) →
      exec i s = .next s) ∧
    (decode (stepWord .tx code x underAtn) = .ok i →
      (s.active x.unit = false ∨ d.transmits x.snap = false ∨ phaseCode d.phase d.cursor ≠ code.toNat) →
      exec i s = .next s) ∧
    (s.active x.unit = false ∨ d.seesFall x.snap = false → exec (.atnFall x) s = .next s) ∧
    (s.active x.unit = false ∨ d.seesRise x.snap = false → exec (.atnRise x) s = .next s)

/-- A phase or edge row issued by itself with a clock smaller than that of the previous `exec` is refused, as `exec`
is, when the clock is unbounded (the model's choice, notes/assumptions/4.md, 10.md, 21.md). -/
def Obligations.RowWithBackwardClockIsRefused : Prop :=
  ∀ (s : State) (x : StepCtx) (code : BitVec 8) (underAtn : Bool) (i : Instr) (p : Clock),
    s.cfg.clockW = none → s.lastNow = some p → x.now < p →
    decode (stepWord .rx code x underAtn) = .ok i ∨ decode (stepWord .tx code x) = .ok i ∨
      i = .atnFall x ∨ i = .atnRise x →
    exec i s = .refused (.clockDecreased p x.now)

/-- A command row issued by itself acts only on an enabled unit of the block that is under ATN and has captured the
row's byte (for a secondary row, after the unit's own LISTEN or TALK); otherwise nothing changes (the
model's choice, notes/assumptions/5.md). -/
def Obligations.CommandRowWithoutItsByteChangesNothing : Prop :=
  ∀ (s : State) (u : UnitNo) (w : PortWord) (i : Instr), w.unit = u → decode w = .ok i →
    (w.fmt = .p → ¬ Stepped s u ∨ (s.dev u).atn = false ∨ (s.dev u).addrCount = 0 ∨ (s.dev u).primary ≠ w.code →
      exec i s = .next s) ∧
    (w.fmt = .s → ¬ Stepped s u ∨ (s.dev u).atn = false ∨ (s.dev u).addrCount ≠ 2 ∨
        (s.dev u).secondary ≠ w.code ∨
        ((s.dev u).primary.toNat ≠ 0x20 + u.val ∧ (s.dev u).primary.toNat ≠ 0x40 + u.val) →
      exec i s = .next s)

/-- An enabled unit that sees no edge and is idle, or waits in DONE1 while receiving, is passive: `exec` leaves its
DeviceState and its slot as they are, whatever CLK, DATA and the other units do (R137 (d), R155, R125). -/
def Obligations.UnaddressedUnitStaysPassive : Prop :=
  ∀ (s t : State) (now : Clock) (u : UnitNo), exec (.exec now) s = .next t → Stepped s u →
    (s.dev u).atn = s.m.atnLow →
    ((s.dev u).regime = .idle ∨ ((s.dev u).phase = .done1 ∧ (s.dev u).regime ≠ .talking)) →
    t.dev u = s.dev u ∧ t.slot u = s.slot u

/-! ### The ATN event and the commands -/

/-- ATNFALL, the entry: the previous secondary is saved, the address bytes are cleared, the handshake restarts at
PRE0, the pending regime and the status table are kept, and the slot shows presence on DATA (R126, R216). -/
def Obligations.AtnFallSavesAndAssertsPresence : Prop :=
  ∀ (s : State) (x : StepCtx), Stepped s x.unit → ClockOk s x.now →
    (s.dev x.unit).atn = false → x.snap.atn = false →
    ∃ t, exec (.atnFall x) s = .next t ∧
      QuietlyBecomes x.unit
        { s.dev x.unit with atn := true, secPrev := (s.dev x.unit).secondary, primary := 0#8,
                            secondary := 0#8, addrCount := 0, phase := .pre0, stamp := x.now }
        ⟨false, true⟩ s t

/-- ATNRISE, the return: the complete table of what the captured bytes and the flags lead to (R127, R138, R139,
R217). -/
def Obligations.AtnRiseOutcome : Prop :=
  ∀ (s : State) (x : StepCtx), Stepped s x.unit → ClockOk s x.now →
    (s.dev x.unit).atn = true → x.snap.atn = true →
    let u := x.unit
    let d := { s.dev u with atn := false, phase := .pre0, stamp := x.now }
    let call := secondaryCall u d.secondary
    let prev := channelOf d.secPrev
    let unlisten := DispCall.unlisten u prev (s.statusOf u prev)
    let untalk := DispCall.untalk u prev (s.statusOf u prev)
    ∃ t, exec (.atnRise x) s = .next t ∧
      (d.primary.toNat = 0x20 + u.val → d.addrCount = 2 → OneCall call s t ∧
        UnitBecomes u (latched { d with listening := true, talking := false } call.channel
          (s.answerTo call).status) ⟨false, true⟩ s t) ∧
      (d.primary.toNat = 0x20 + u.val → d.addrCount = 1 →
        QuietlyBecomes u { d with listening := true, talking := false } ⟨false, true⟩ s t) ∧
      (d.primary.toNat = 0x40 + u.val → d.addrCount = 2 → OneCall call s t ∧
        UnitBecomes u (latched { d with listening := false, talking := true } call.channel
          (s.answerTo call).status) ⟨false, false⟩ s t) ∧
      (d.primary.toNat = 0x40 + u.val → d.addrCount = 1 →
        QuietlyBecomes u { d with listening := false, talking := true } ⟨false, false⟩ s t) ∧
      (d.primary = 0x3F#8 → 1 ≤ d.addrCount.val → d.listening = true → OneCall unlisten s t ∧
        UnitBecomes u (latched { d with listening := false } prev (s.answerTo unlisten).status)
          ⟨false, false⟩ s t) ∧
      (d.primary = 0x5F#8 → 1 ≤ d.addrCount.val → d.talking = true → d.listening = false →
        OneCall untalk s t ∧
        UnitBecomes u (latched { d with talking := false } prev (s.answerTo untalk).status)
          ⟨false, false⟩ s t) ∧
      (d.addrCount = 0 ∨ pClass d.primary u = .other ∨ (d.primary = 0x3F#8 ∧ d.listening = false) ∨
          (d.primary = 0x5F#8 ∧ d.talking = false) →
        QuietlyBecomes u
          { d with secondary := if d.listening = true ∨ d.talking = true then d.secPrev else d.secondary }
          ⟨false, d.listening⟩ s t)

/-- The rows LISTEN, TALK and OTHER, as an enabled unit acts on the primary byte it has captured: its own address
sets the role, clears the other, and makes the secondary byte's call if there is one (R131, R132, R133);
any other byte changes nothing but to keep a pending regime's channel (R136). That a command row runs by
itself while the unit is under ATN is the model's choice (notes/assumptions/5.md). -/
def Obligations.ListenTalkOtherRows : Prop :=
  ∀ (s : State) (u : UnitNo) (a : BitVec 5) (p : Byte), Stepped s u → (s.dev u).atn = true →
    1 ≤ (s.dev u).addrCount.val →
    let d := s.dev u
    let call := secondaryCall u d.secondary
    let resumed :=
      { d with secondary := if d.listening = true ∨ d.talking = true then d.secPrev else d.secondary }
    (a ≠ 31#5 → d.primary.toNat = 0x20 + a.toNat → ∃ t, exec (.listen u a) s = .next t ∧
      (a.toNat = u.val → d.addrCount = 2 → OneCall call s t ∧
        UnitBecomes u (latched { d with listening := true, talking := false } call.channel
          (s.answerTo call).status) (s.slot u) s t) ∧
      (a.toNat = u.val → d.addrCount = 1 →
        QuietlyBecomes u { d with listening := true, talking := false } (s.slot u) s t) ∧
      (a.toNat ≠ u.val → QuietlyBecomes u resumed (s.slot u) s t)) ∧
    (a ≠ 31#5 → d.primary.toNat = 0x40 + a.toNat → ∃ t, exec (.talk u a) s = .next t ∧
      (a.toNat = u.val → d.addrCount = 2 → OneCall call s t ∧
        UnitBecomes u (latched { d with listening := false, talking := true } call.channel
          (s.answerTo call).status) (s.slot u) s t) ∧
      (a.toNat = u.val → d.addrCount = 1 →
        QuietlyBecomes u { d with listening := false, talking := true } (s.slot u) s t) ∧
      (a.toNat ≠ u.val → QuietlyBecomes u resumed (s.slot u) s t)) ∧
    (p.toNat < 0x20 ∨ 0x60 ≤ p.toNat → d.primary = p →
      ∃ t, exec (.other u p) s = .next t ∧ QuietlyBecomes u resumed (s.slot u) s t)

/-- The rows UNLISTEN and UNTALK, as an enabled unit acts on the broadcast it has captured: a unit in the regime
leaves it and makes the call for the previous channel with its latched status (R134, R135); any other
unit takes no command (R136). That the row runs by itself while the unit is still under ATN, where the spec acts
at the rising edge (R127, R153), is the model's choice (notes/assumptions/5.md). -/
def Obligations.UnlistenUntalkRows : Prop :=
  ∀ (s : State) (u : UnitNo), Stepped s u → (s.dev u).atn = true → 1 ≤ (s.dev u).addrCount.val →
    let d := s.dev u
    let c := channelOf d.secPrev
    let unlisten := DispCall.unlisten u c (s.statusOf u c)
    let untalk := DispCall.untalk u c (s.statusOf u c)
    let resumed :=
      { d with secondary := if d.listening = true ∨ d.talking = true then d.secPrev else d.secondary }
    (d.primary = 0x3F#8 → ∃ t, exec (.unlisten u) s = .next t ∧
      (d.listening = true → OneCall unlisten s t ∧
        UnitBecomes u (latched { d with listening := false } c (s.answerTo unlisten).status) (s.slot u) s t) ∧
      (d.listening = false → QuietlyBecomes u resumed (s.slot u) s t)) ∧
    (d.primary = 0x5F#8 → ∃ t, exec (.untalk u) s = .next t ∧
      (d.talking = true → OneCall untalk s t ∧
        UnitBecomes u (latched { d with talking := false } c (s.answerTo untalk).status) (s.slot u) s t) ∧
      (d.talking = false → QuietlyBecomes u resumed (s.slot u) s t))

/-- The rows OPEN c, CLOSE c and DATA k c, as a unit that has captured its own LISTEN or TALK acts on the secondary
byte it has captured: the call for channel c is made and its status latched there (R133, R75). That the row runs
by itself while the unit is still under ATN, making its call alone without the flags of the primary command, is
the model's choice (notes/assumptions/5.md). -/
def Obligations.SecondaryRowsMakeTheirCall : Prop :=
  ∀ (s : State) (u : UnitNo) (k : BitVec 4) (c : Channel), Stepped s u → (s.dev u).atn = true →
    (s.dev u).addrCount = 2 →
    (s.dev u).primary.toNat = 0x20 + u.val ∨ (s.dev u).primary.toNat = 0x40 + u.val →
    let made (i : Instr) (call : DispCall) := ∃ t, exec i s = .next t ∧ OneCall call s t ∧
      UnitBecomes u (latched (s.dev u) c (s.answerTo call).status) (s.slot u) s t
    ((s.dev u).secondary.toNat = 0xF0 + c.val → made (.openCmd u c) (.openCall u c)) ∧
    ((s.dev u).secondary.toNat = 0xE0 + c.val → made (.closeCmd u c) (.closeCall u c)) ∧
    (k.toNat < 0xE → (s.dev u).secondary.toNat = 16 * k.toNat + c.val → made (.dataCmd u k c) (.channelCommand u c))

/-! ### The Dispatcher calls -/

/-- Each of the seven call rows, for a unit of the block, makes its call once, records it with the status table
as the Dispatcher could see it, and latches the returned status in that unit's entry for the channel; the
slot, the other entries, the other units and everything else stay (R190, R198, R199). That a row issued by itself
is made for every unit of the block, also a disabled or idle one, is the model's choice
(notes/assumptions/20.md); so are that its operand lines are the call's arguments (notes/assumptions/22.md) and
that a call for a number that is no unit is not made (notes/assumptions/6.md). -/
def Obligations.DispatcherCallsAreRecordedAndLatched : Prop :=
  ∀ (s : State) (u : UnitNo) (c : Channel) (b : Byte),
    let does (i : Instr) (call : DispCall) := ∃ t, exec i s = .next t ∧
      (inRange s.cfg u = true → OneCall call s t ∧
        UnitBecomes u (latched (s.dev u) c (s.answerTo call).status) (s.slot u) s t) ∧
      (inRange s.cfg u = false → t = s)
    does (.dispOpen u c) (.openCall u c) ∧ does (.dispClose u c) (.closeCall u c) ∧
    does (.dispChannelCommand u c) (.channelCommand u c) ∧ does (.dispWrite u c b) (.write u c b) ∧
    does (.dispRead u c) (.read u c) ∧ does (.dispUnlisten u c b) (.unlisten u c b) ∧
    does (.dispUntalk u c b) (.untalk u c b)

/-- The status that `close` returned on a channel is what the next `open` on that channel lets the Dispatcher see,
whatever happened in between, as long as the entry was left as the close left it (R199, R200, P4). First for the
two call rows: that these, issued by themselves, are made for every unit of the block and on the channel of their
operand line, so that the table of a disabled or idle unit is shown too, is the model's choice
(notes/assumptions/20.md, 22.md). Then for any instruction `i` that makes the close and any `j` that makes the open, the rows of the
commands and EXEC among them. -/
def Obligations.CloseStatusIsVisibleToTheNextOpen : Prop :=
  (∀ (s t t' : State) (u : UnitNo) (c : Channel), inRange s.cfg u = true →
    exec (.dispClose u c) s = .next t → t'.cfg = t.cfg → t'.statusOf u c = t.statusOf u c →
    ∃ r k, exec (.dispOpen u c) t' = .next r ∧ r.calls = k :: t'.calls ∧ k.call = .openCall u c ∧
      k.table[c] = (s.answerTo (.closeCall u c)).status) ∧
  ∀ (i j : Instr) (s t t' r : State) (u : UnitNo) (c : Channel) (closing opening : List CallRecord),
    exec i s = .next t → t.calls = closing ++ s.calls → t'.statusOf u c = t.statusOf u c →
    exec j t' = .next r → r.calls = opening ++ t'.calls →
    ∀ k ∈ closing, k.call = .closeCall u c → ∀ k' ∈ opening, k'.call = .openCall u c →
      k'.table[c] = k.answer.status

/-! ### The receive rows (43_byte_receive.md) -/

/-- RX.PRE0: after the settle window, PRE1; until then nothing (R146). -/
def Obligations.RxPre0Settles : Prop :=
  ∀ (s : State) (x : StepCtx) (ua : Bool), Receiving s x ua → (s.dev x.unit).phase = .pre0 →
    ∃ t, exec (.rxPre0 x) s = .next t ∧
      (s.cfg.tRxSettle ≤ s.elapsed x.unit x.now →
        QuietlyBecomes x.unit { s.dev x.unit with phase := .pre1, stamp := x.now } (s.slot x.unit) s t) ∧
      (s.elapsed x.unit x.now < s.cfg.tRxSettle → t = s)

/-- RX.PRE1: on CLK high, DATA is released and READY entered; on CLK low nothing, without a timeout (R147). -/
def Obligations.RxPre1AnswersReadyForData : Prop :=
  ∀ (s : State) (x : StepCtx) (ua : Bool), Receiving s x ua → (s.dev x.unit).phase = .pre1 →
    ∃ t, exec (.rxPre1 x) s = .next t ∧
      (x.snap.clk = true →
        QuietlyBecomes x.unit { s.dev x.unit with phase := .ready, stamp := x.now } ⟨false, false⟩ s t) ∧
      (x.snap.clk = false → t = s)

/-- RX.READY: CLK low starts the frame, also when the time is up; CLK high for the ready timeout is EOI for a
listener, never under ATN; otherwise nothing (R148). -/
def Obligations.RxReadyStartsFrameOrEoi : Prop :=
  ∀ (s : State) (x : StepCtx) (ua : Bool), Receiving s x ua → (s.dev x.unit).phase = .ready →
    ∃ t, exec (.rxReady x) s = .next t ∧
      (x.snap.clk = false →
        QuietlyBecomes x.unit { s.dev x.unit with cursor := 0, phase := .bit, stamp := x.now }
          (s.slot x.unit) s t) ∧
      (x.snap.clk = true → ua = false → s.cfg.tEoi ≤ s.elapsed x.unit x.now →
        QuietlyBecomes x.unit { s.dev x.unit with phase := .eoi, stamp := x.now } ⟨false, true⟩ s t) ∧
      (x.snap.clk = true → ua = true ∨ s.elapsed x.unit x.now < s.cfg.tEoi → t = s)

/-- RX.EOI: the acknowledge pulse ends after its width (R149). RX.EOIW: CLK low starts the final byte's frame
(R150). -/
def Obligations.RxEoiPulseThenFrame : Prop :=
  ∀ (s : State) (x : StepCtx) (ua : Bool), Receiving s x ua →
    ((s.dev x.unit).phase = .eoi → ∃ t, exec (.rxEoi x) s = .next t ∧
      (s.cfg.tEoiAck ≤ s.elapsed x.unit x.now →
        QuietlyBecomes x.unit { s.dev x.unit with phase := .eoiw, stamp := x.now } ⟨false, false⟩ s t) ∧
      (s.elapsed x.unit x.now < s.cfg.tEoiAck → t = s)) ∧
    ((s.dev x.unit).phase = .eoiw → ∃ t, exec (.rxEoiw x) s = .next t ∧
      (x.snap.clk = false →
        QuietlyBecomes x.unit { s.dev x.unit with cursor := 0, phase := .bit, stamp := x.now }
          (s.slot x.unit) s t) ∧
      (x.snap.clk = true → t = s))

/-- RX.BIT0 to RX.BIT7: on CLK high, DATA of the same snapshot is written into bit `n` of `byte`, no other bit
changes, and BITW is entered; on CLK low nothing (R151). -/
def Obligations.RxBitSamplesOneBit : Prop :=
  ∀ (s : State) (x : StepCtx) (ua : Bool) (n : Fin 8), Receiving s x ua → (s.dev x.unit).phase = .bit →
    (s.dev x.unit).cursor = n →
    ∃ t, exec (Instr.rxBit n x) s = .next t ∧
      (x.snap.clk = true → ∃ b : Byte,
        QuietlyBecomes x.unit { s.dev x.unit with byte := b, phase := .bitw, stamp := x.now }
          (s.slot x.unit) s t ∧
        ∀ k : Fin 8, byteBit b k = if k = n then x.snap.data else byteBit (s.dev x.unit).byte k) ∧
      (x.snap.clk = false → t = s)

/-- RX.BITW0 to RX.BITW6: on CLK low the cursor advances by one and BIT is entered; on CLK high nothing (R152). -/
def Obligations.RxBitwAdvances : Prop :=
  ∀ (s : State) (x : StepCtx) (ua : Bool) (n : Fin 7), Receiving s x ua → (s.dev x.unit).phase = .bitw →
    (s.dev x.unit).cursor.val = n.val →
    ∃ t, exec (Instr.rxBitw n x) s = .next t ∧
      (x.snap.clk = false → ∃ next : Fin 8, next.val = n.val + 1 ∧
        QuietlyBecomes x.unit { s.dev x.unit with cursor := next, phase := .bit, stamp := x.now }
          (s.slot x.unit) s t) ∧
      (x.snap.clk = true → t = s)

/-- RX.BITW7.ATN: on CLK low the byte is captured as primary or secondary, or dropped; it is acknowledged, DATA low
held, iff the captured primary is this unit's LISTEN or TALK or a broadcast, else DONE1 without a write;
no call is made; on CLK high nothing (R152, R153, R77). -/
def Obligations.RxByteCompleteUnderAtn : Prop :=
  ∀ (s : State) (x : StepCtx), Receiving s x true → (s.dev x.unit).phase = .bitw → (s.dev x.unit).cursor = 7 →
    let u := x.unit
    let d := s.dev u
    let d' :=
      if d.addrCount = 0 then { d with primary := d.byte, addrCount := 1 }
      else if d.addrCount = 1 then { d with secondary := d.byte, addrCount := 2 }
      else d
    let mine := d'.primary.toNat = 0x20 + u.val ∨ d'.primary.toNat = 0x40 + u.val ∨
      d'.primary = 0x3F#8 ∨ d'.primary = 0x5F#8
    ∃ t, exec (.rxBitw7Atn x) s = .next t ∧
      (x.snap.clk = false → mine →
        QuietlyBecomes u { d' with phase := .pre1, stamp := x.now } ⟨false, true⟩ s t) ∧
      (x.snap.clk = false → ¬ mine →
        QuietlyBecomes u { d' with phase := .done1, stamp := x.now } (s.slot u) s t) ∧
      (x.snap.clk = true → t = s)

/-- RX.BITW7.LISTEN: on CLK low the byte is delivered by exactly one `write` on the unit's channel and its status
latched; status 0x00 is acknowledged, DATA low held, and PRE1 entered; any other status enters DONE1 with
the slot as it was; on CLK high nothing (R152, R154, R194). -/
def Obligations.RxByteCompleteWhileListening : Prop :=
  ∀ (s : State) (x : StepCtx), Receiving s x false → (s.dev x.unit).phase = .bitw →
    (s.dev x.unit).cursor = 7 →
    let u := x.unit
    let call := DispCall.write u (s.channel u) (s.dev u).byte
    let st := (s.answerTo call).status
    let d' := latched (s.dev u) (s.channel u) st
    ∃ t, exec (.rxBitw7Listen x) s = .next t ∧
      (x.snap.clk = false → OneCall call s t ∧
        (st = 0x00#8 → UnitBecomes u { d' with phase := .pre1, stamp := x.now } ⟨false, true⟩ s t) ∧
        (st ≠ 0x00#8 → UnitBecomes u { d' with phase := .done1, stamp := x.now } (s.slot u) s t)) ∧
      (x.snap.clk = true → t = s)

/-- RX.DONE1 waits: nothing (R155). RX.DONE0, RX.RETRY0 and RX.RETRY1, which no rule enters while receiving, behave
as DONE1 (R156). -/
def Obligations.RxTerminalRowsDoNothing : Prop :=
  ∀ (s : State) (x : StepCtx) (ua : Bool), Receiving s x ua →
    ((s.dev x.unit).phase = .done1 → exec (.rxDone1 x) s = .next s) ∧
    ((s.dev x.unit).phase = .done0 → exec (.rxDone0 x) s = .next s) ∧
    ((s.dev x.unit).phase = .retry0 → exec (.rxRetry0 x) s = .next s) ∧
    ((s.dev x.unit).phase = .retry1 → exec (.rxRetry1 x) s = .next s)

/-! ### The transmit rows (44_byte_transmit.md) -/

/-- TX.PRE0: DATA low and CLK high in one snapshot, and the talker takes CLK and enters PRE1; otherwise nothing
(R165). -/
def Obligations.TxPre0WaitsForTurnAround : Prop :=
  ∀ (s : State) (x : StepCtx), Transmitting s x → (s.dev x.unit).phase = .pre0 →
    ∃ t, exec (.txPre0 x) s = .next t ∧
      (x.snap.data = false → x.snap.clk = true →
        QuietlyBecomes x.unit { s.dev x.unit with phase := .pre1, stamp := x.now } ⟨true, false⟩ s t) ∧
      (x.snap.data = true ∨ x.snap.clk = false → t = s)

/-- TX.PRE1: after the settle CLK is released and READY entered; until then nothing (R166). -/
def Obligations.TxPre1ReadyToSend : Prop :=
  ∀ (s : State) (x : StepCtx), Transmitting s x → (s.dev x.unit).phase = .pre1 →
    ∃ t, exec (.txPre1 x) s = .next t ∧
      (s.cfg.tTxSettle ≤ s.elapsed x.unit x.now →
        QuietlyBecomes x.unit { s.dev x.unit with phase := .ready, stamp := x.now } ⟨false, false⟩ s t) ∧
      (s.elapsed x.unit x.now < s.cfg.tTxSettle → t = s)

/-- TX.READY: on DATA high exactly one `read`, its status latched; status 0x00 sends the byte from bit 0, the EOI
status holds for EOI, any other status discards the byte, stops talking and releases the lines; on DATA
low nothing, and no `read` (R167, R180, R195). -/
def Obligations.TxReadyFetchesOneByte : Prop :=
  ∀ (s : State) (x : StepCtx), Transmitting s x → (s.dev x.unit).phase = .ready →
    let u := x.unit
    let call := DispCall.read u (s.channel u)
    let a := s.answerTo call
    let d' := latched (s.dev u) (s.channel u) a.status
    ∃ t, exec (.txReady x) s = .next t ∧
      (x.snap.data = true → OneCall call s t ∧
        (a.status = 0x00#8 →
          UnitBecomes u { d' with byte := a.byte, cursor := 0, phase := .bit, stamp := x.now }
            (s.slot u) s t) ∧
        (a.status ≠ 0x00#8 → a.status = s.cfg.statusEoi →
          UnitBecomes u { d' with byte := a.byte, phase := .eoi, stamp := x.now } (s.slot u) s t) ∧
        (a.status ≠ 0x00#8 → a.status ≠ s.cfg.statusEoi →
          UnitBecomes u { d' with talking := false, phase := .pre0, stamp := x.now } ⟨false, false⟩ s t)) ∧
      (x.snap.data = false → t = s)

/-- TX.EOI waits, without a timer, for DATA low (R168); TX.EOIW for DATA high, then sends from bit 0 (R169). -/
def Obligations.TxEoiHold : Prop :=
  ∀ (s : State) (x : StepCtx), Transmitting s x →
    ((s.dev x.unit).phase = .eoi → ∃ t, exec (.txEoi x) s = .next t ∧
      (x.snap.data = false →
        QuietlyBecomes x.unit { s.dev x.unit with phase := .eoiw, stamp := x.now } (s.slot x.unit) s t) ∧
      (x.snap.data = true → t = s)) ∧
    ((s.dev x.unit).phase = .eoiw → ∃ t, exec (.txEoiw x) s = .next t ∧
      (x.snap.data = true →
        QuietlyBecomes x.unit { s.dev x.unit with cursor := 0, phase := .bit, stamp := x.now }
          (s.slot x.unit) s t) ∧
      (x.snap.data = false → t = s))

/-- TX.BIT0 to TX.BIT7: after the delay CLK is driven low and DATA low iff bit `n` is 0; `byte` is not changed
(R171). -/
def Obligations.TxBitSetsUpOneBit : Prop :=
  ∀ (s : State) (x : StepCtx) (n : Fin 8), Transmitting s x → (s.dev x.unit).phase = .bit →
    (s.dev x.unit).cursor = n →
    ∃ t, exec (Instr.txBit n x) s = .next t ∧
      (s.cfg.tBit ≤ s.elapsed x.unit x.now →
        QuietlyBecomes x.unit { s.dev x.unit with phase := .bitw, stamp := x.now }
          ⟨true, !(s.dev x.unit).byte.getLsbD n⟩ s t) ∧
      (s.elapsed x.unit x.now < s.cfg.tBit → t = s)

/-- TX.BITW0 to TX.BITW7: after the delay CLK is released with DATA still at bit `n`; below 7 the cursor advances
and BIT follows, at 7 the end of the frame follows and the cursor stays (R172). -/
def Obligations.TxBitwRaisesClock : Prop :=
  ∀ (s : State) (x : StepCtx) (n : Fin 8), Transmitting s x → (s.dev x.unit).phase = .bitw →
    (s.dev x.unit).cursor = n →
    ∃ t, exec (Instr.txBitw n x) s = .next t ∧
      (s.cfg.tBit ≤ s.elapsed x.unit x.now →
        (∀ next : Fin 8, next.val = n.val + 1 →
          QuietlyBecomes x.unit { s.dev x.unit with cursor := next, phase := .bit, stamp := x.now }
            ⟨false, !(s.dev x.unit).byte.getLsbD n⟩ s t) ∧
        (n = 7 →
          QuietlyBecomes x.unit { s.dev x.unit with phase := .done0, stamp := x.now }
            ⟨false, !(s.dev x.unit).byte.getLsbD n⟩ s t)) ∧
      (s.elapsed x.unit x.now < s.cfg.tBit → t = s)

/-- TX.DONE0: after the delay the frame ends, CLK low and DATA released (R173). -/
def Obligations.TxDone0EndsTheFrame : Prop :=
  ∀ (s : State) (x : StepCtx), Transmitting s x → (s.dev x.unit).phase = .done0 →
    ∃ t, exec (.txDone0 x) s = .next t ∧
      (s.cfg.tBit ≤ s.elapsed x.unit x.now →
        QuietlyBecomes x.unit { s.dev x.unit with phase := .done1, stamp := x.now } ⟨true, false⟩ s t) ∧
      (s.elapsed x.unit x.now < s.cfg.tBit → t = s)

/-- TX.DONE1: DATA low is the acknowledge, also when the timeout is up: after the final byte the unit stops talking
and releases the bus, otherwise the next byte follows with CLK kept low; DATA high for the timeout starts
the retry pulse; otherwise nothing (R174, R175). -/
def Obligations.TxDone1AcknowledgeOrTimeout : Prop :=
  ∀ (s : State) (x : StepCtx), Transmitting s x → (s.dev x.unit).phase = .done1 →
    let u := x.unit
    let st := s.statusOf u (s.channel u)
    ∃ t, exec (.txDone1 x) s = .next t ∧
      (x.snap.data = false → st = s.cfg.statusEoi →
        QuietlyBecomes u { s.dev u with talking := false, phase := .pre0, stamp := x.now }
          ⟨false, false⟩ s t) ∧
      (x.snap.data = false → st ≠ s.cfg.statusEoi →
        QuietlyBecomes u { s.dev u with phase := .pre1, stamp := x.now } (s.slot u) s t) ∧
      (x.snap.data = true → s.cfg.tAck ≤ s.elapsed u x.now →
        QuietlyBecomes u { s.dev u with phase := .retry0, stamp := x.now } ⟨false, false⟩ s t) ∧
      (x.snap.data = true → s.elapsed u x.now < s.cfg.tAck → t = s)

/-- TX.RETRY0 and TX.RETRY1: the two halves of the retry pulse, CLK low and then high again, and the resend from
bit 0; no `read` is made (R176, R177). -/
def Obligations.TxRetryPulseAndResend : Prop :=
  ∀ (s : State) (x : StepCtx), Transmitting s x →
    ((s.dev x.unit).phase = .retry0 → ∃ t, exec (.txRetry0 x) s = .next t ∧
      (s.cfg.tRetry ≤ s.elapsed x.unit x.now →
        QuietlyBecomes x.unit { s.dev x.unit with phase := .retry1, stamp := x.now } ⟨true, false⟩ s t) ∧
      (s.elapsed x.unit x.now < s.cfg.tRetry → t = s)) ∧
    ((s.dev x.unit).phase = .retry1 → ∃ t, exec (.txRetry1 x) s = .next t ∧
      (s.cfg.tRetry ≤ s.elapsed x.unit x.now →
        QuietlyBecomes x.unit { s.dev x.unit with cursor := 0, phase := .bit, stamp := x.now }
          ⟨false, false⟩ s t) ∧
      (s.elapsed x.unit x.now < s.cfg.tRetry → t = s))

/-! ### Bytes on the wire -/

/-- A talker fetches only in READY: in every other phase its step makes no Dispatcher call and leaves `byte` and
the status table, so a resent byte is the same byte (R179, P5). -/
def Obligations.TalkerKeepsItsByteOutsideReady : Prop :=
  ∀ (s : State) (x : StepCtx), Transmitting s x → (s.dev x.unit).phase ≠ .ready →
    let t := unitStep x.unit x.snap x.now s
    NoCall s t ∧ (t.dev x.unit).byte = (s.dev x.unit).byte ∧ (t.dev x.unit).status = (s.dev x.unit).status

/-- Eight samples written at the cursor positions 0 to 7 give the byte whose bit n is the n-th sample, whatever the
register held before (R24, R53). -/
def Obligations.EightSamplesFormTheByte : Prop :=
  ∀ (old : Byte) (level : Fin 8 → Bool),
    let received := (List.finRange 8).foldl (fun b n => setByteBit b n (level n)) old
    (∀ n, byteBit received n = level n) ∧
    received.toNat = ∑ n : Fin 8, if level n then 2 ^ n.val else 0
end

