-- ==== Sys2Proof/Tests/Slice0.lean ====
section
/-! SUPPORT. The model's own tests: ill-formed terms refused, every row's word decoded, single steps with the
results of 95_test_vectors.md (configuration T), and for every obligation with hypotheses a state that meets
them. -/

set_option Elab.async false

namespace Sys2Proof.Tests

open Sys2Proof.Machine

/-! ### Helpers -/

/-- Configuration T of 95_test_vectors.md section 1. -/
def cfgT : Config where
  unitMin := 4
  unitMax := 15
  clockW := none
  cps := 1000000
  tRxSettle := 3
  tEoi := 8
  tEoiAck := 3
  tTxSettle := 2
  tBit := 2
  tAck := 10
  tRetry := 2
  statusEoi := 0x40#8
  execStepMax := 1

/-- A line snapshot from three levels, `true` = high. -/
def lv (atn clk data : Bool) : Snapshot := ⟨atn, clk, data⟩

/-- The three levels used most, ATN high. -/
def hhh : Snapshot := lv true true true
/-- ATN high, CLK high, DATA low. -/
def hhl : Snapshot := lv true true false
/-- ATN high, CLK low, DATA high. -/
def hlh : Snapshot := lv true false true
/-- ATN high, CLK low, DATA low. -/
def hll : Snapshot := lv true false false
/-- ATN low, CLK high, DATA high. -/
def lhh : Snapshot := lv false true true
/-- ATN low, CLK high, DATA low. -/
def lhl : Snapshot := lv false true false
/-- ATN low, CLK low, DATA high. -/
def llh : Snapshot := lv false false true
/-- ATN low, CLK low, DATA low. -/
def lll : Snapshot := lv false false false

/-- A fresh instance under configuration T. -/
def fresh : State := { State.reset with cfg := cfgT }

/-- One unit in DeviceState `d` with slot `w`, the others disabled, the controller initialized, and the
Dispatcher's next answer given. -/
def one (u : UnitNo) (d : DeviceState) (w : Slot) (a : Answer := ⟨0#8, 0#8⟩) : State :=
  { fresh with initialized := true, devs := fresh.devs.set u d, slots := fresh.slots.set u w, answers := [a] }

/-- The next state, if there is one. -/
def nextOf (o : Host.Outcome State Fault Refusal) : Option State :=
  match o with
  | .next t => some t
  | _       => none

/-- What the step `i` leaves of unit `u`, and the calls it made. -/
def after (i : Instr) (u : UnitNo) (s : State) : Option (DeviceState × Slot × List DispCall) :=
  (nextOf (exec i s)).map fun t => (t.dev u, t.slot u, t.calls.map (·.call))

/-- An enabled, cleared, idle unit. -/
def idle : DeviceState := { DeviceState.powerOn with enabled := true }
/-- A unit under ATN in phase `p` since `st`. -/
def ua (p : Phase) (st : Nat) : DeviceState := { idle with atn := true, phase := p, stamp := st }
/-- A listener on channel 2 in phase `p` since `st`. -/
def li (p : Phase) (st : Nat) : DeviceState :=
  { idle with listening := true, phase := p, stamp := st, primary := 0x28#8, secondary := 0xF2#8, addrCount := 2 }
/-- A talker on channel 0 in phase `p` since `st`. -/
def ta (p : Phase) (st : Nat) : DeviceState :=
  { idle with talking := true, phase := p, stamp := st, primary := 0x48#8, secondary := 0x60#8, addrCount := 2 }
/-- The slot values. -/
def rel : Slot := ⟨false, false⟩
/-- DATA held low. -/
def dat : Slot := ⟨false, true⟩
/-- CLK held low. -/
def clo : Slot := ⟨true, false⟩
/-- Unit 8's step context. -/
def at8 (S : Snapshot) (now : Nat) : StepCtx := ⟨8, S, now⟩
/-- `status` all 0x00 but entry `c`. -/
def st1 (c : Channel) (b : Byte) : Vector Byte 16 := (Vector.replicate 16 0#8).set c b

/-! ### Ill-formed terms are refused (30_encoding.md R70, R73, R75) -/

theorem test_wf_listen_31 : (Instr.listen 8 31#5).wellFormed = false := by decide
theorem test_wf_talk_31 : (Instr.talk 8 31#5).wellFormed = false := by decide
theorem test_wf_other_low : (Instr.other 8 0x20#8).wellFormed = false := by decide
theorem test_wf_other_high : (Instr.other 8 0x5F#8).wellFormed = false := by decide
theorem test_wf_data_open : (Instr.dataCmd 8 0xF#4 2).wellFormed = false := by decide
theorem test_wf_data_close : (Instr.dataCmd 8 0xE#4 2).wellFormed = false := by decide
theorem test_wf_neighbours : (Instr.listen 8 30#5).wellFormed = true ∧ (Instr.talk 8 30#5).wellFormed = true ∧
    (Instr.other 8 0x1F#8).wellFormed = true ∧ (Instr.other 8 0x60#8).wellFormed = true ∧
    (Instr.dataCmd 8 0xD#4 2).wellFormed = true := by decide

/-! ### Every row's word, written out from the spec's encoding -/

theorem test_decode_primary :
    decode { fmt := .p, code := 0b00101000#8, unit := 8 } = .ok (.listen 8 8#5) ∧
    decode { fmt := .p, code := 0b00111110#8, unit := 4 } = .ok (.listen 4 30#5) ∧
    decode { fmt := .p, code := 0b00111111#8, unit := 8 } = .ok (.unlisten 8) ∧
    decode { fmt := .p, code := 0b01001001#8, unit := 9 } = .ok (.talk 9 9#5) ∧
    decode { fmt := .p, code := 0b01000000#8, unit := 9 } = .ok (.talk 9 0#5) ∧
    decode { fmt := .p, code := 0b01011111#8, unit := 9 } = .ok (.untalk 9) ∧
    decode { fmt := .p, code := 0b00011111#8, unit := 9 } = .ok (.other 9 0x1F#8) ∧
    decode { fmt := .p, code := 0b01101000#8, unit := 8 } = .ok (.other 8 0x68#8) := by decide

theorem test_decode_secondary :
    decode { fmt := .s, code := 0b11110010#8, unit := 8 } = .ok (.openCmd 8 2) ∧
    decode { fmt := .s, code := 0b11101111#8, unit := 8 } = .ok (.closeCmd 8 15) ∧
    decode { fmt := .s, code := 0b01100010#8, unit := 8 } = .ok (.dataCmd 8 0b0110#4 2) ∧
    decode { fmt := .s, code := 0b11011111#8, unit := 8 } = .ok (.dataCmd 8 0b1101#4 15) := by decide

theorem test_decode_event :
    decode { fmt := .ev, code := 0b00000000#8, unit := 8, snap := lhh, now := 2 } = .ok (.atnFall (at8 lhh 2)) ∧
    decode { fmt := .ev, code := 0b00000011#8, unit := 8, snap := hhh, now := 3 } = .ok (.atnRise (at8 hhh 3)) := by decide

theorem test_decode_control :
    decode { fmt := .ctl, code := 0b000#8 } = .ok .nop ∧
    decode { fmt := .ctl, code := 0b001#8 } = .ok .init ∧
    decode { fmt := .ctl, code := 0b010#8, num := 8 } = .ok (.enable 8) ∧
    decode { fmt := .ctl, code := 0b011#8, num := -1 } = .ok (.disable (-1)) ∧
    decode { fmt := .ctl, code := 0b100#8 } = .ok .reset ∧
    decode { fmt := .ctl, code := 0b101#8, now := 7 } = .ok (.exec 7) ∧
    decode { fmt := .ctl, code := 0b110#8 } = .ok .nop ∧
    decode { fmt := .ctl, code := 0b111#8 } = .ok .nop := by decide

theorem test_decode_fabric :
    decode { fmt := .fab, code := 0b0#8 } = .ok .fread ∧
    decode { fmt := .fab, code := 0b1#8, unit := 9, clkLow := true } = .ok (.fwrite 9 true false) := by decide

theorem test_decode_dispatcher :
    decode { fmt := .dsp, code := 0b000#8, unit := 8, chan := 2 } = .ok (.dispOpen 8 2) ∧
    decode { fmt := .dsp, code := 0b001#8, unit := 8, chan := 5 } = .ok (.dispClose 8 5) ∧
    decode { fmt := .dsp, code := 0b010#8, unit := 8, chan := 0 } = .ok (.dispChannelCommand 8 0) ∧
    decode { fmt := .dsp, code := 0b011#8, unit := 8, chan := 2, data := 0x44#8 } = .ok (.dispWrite 8 2 0x44#8) ∧
    decode { fmt := .dsp, code := 0b100#8, unit := 9, chan := 0 } = .ok (.dispRead 9 0) ∧
    decode { fmt := .dsp, code := 0b101#8, unit := 8, chan := 2, data := 0x08#8 } = .ok (.dispUnlisten 8 2 0x08#8) ∧
    decode { fmt := .dsp, code := 0b110#8, unit := 8, chan := 3 } = .ok (.dispUntalk 8 3 0#8) := by decide

theorem test_decode_receive :
    decode { fmt := .rx, code := 0b00000#8, unit := 8, snap := hhl, now := 5 } = .ok (.rxPre0 (at8 hhl 5)) ∧
    decode { fmt := .rx, code := 0b00001#8, unit := 8, snap := hhl, now := 5 } = .ok (.rxPre1 (at8 hhl 5)) ∧
    decode { fmt := .rx, code := 0b00010#8, unit := 8, snap := hhl, now := 5 } = .ok (.rxReady (at8 hhl 5)) ∧
    decode { fmt := .rx, code := 0b00011#8, unit := 8, snap := hhl, now := 5 } = .ok (.rxEoi (at8 hhl 5)) ∧
    decode { fmt := .rx, code := 0b00100#8, unit := 8, snap := hhl, now := 5 } = .ok (.rxEoiw (at8 hhl 5)) ∧
    decode { fmt := .rx, code := 0b00101#8, unit := 8, snap := hhl, now := 5 } = .ok (.rxBit0 (at8 hhl 5)) ∧
    decode { fmt := .rx, code := 0b00110#8, unit := 8, snap := hhl, now := 5 } = .ok (.rxBitw0 (at8 hhl 5)) ∧
    decode { fmt := .rx, code := 0b00111#8, unit := 8, snap := hhl, now := 5 } = .ok (.rxBit1 (at8 hhl 5)) ∧
    decode { fmt := .rx, code := 0b01000#8, unit := 8, snap := hhl, now := 5 } = .ok (.rxBitw1 (at8 hhl 5)) ∧
    decode { fmt := .rx, code := 0b01001#8, unit := 8, snap := hhl, now := 5 } = .ok (.rxBit2 (at8 hhl 5)) ∧
    decode { fmt := .rx, code := 0b01010#8, unit := 8, snap := hhl, now := 5 } = .ok (.rxBitw2 (at8 hhl 5)) ∧
    decode { fmt := .rx, code := 0b01011#8, unit := 8, snap := hhl, now := 5 } = .ok (.rxBit3 (at8 hhl 5)) ∧
    decode { fmt := .rx, code := 0b01100#8, unit := 8, snap := hhl, now := 5 } = .ok (.rxBitw3 (at8 hhl 5)) ∧
    decode { fmt := .rx, code := 0b01101#8, unit := 8, snap := hhl, now := 5 } = .ok (.rxBit4 (at8 hhl 5)) ∧
    decode { fmt := .rx, code := 0b01110#8, unit := 8, snap := hhl, now := 5 } = .ok (.rxBitw4 (at8 hhl 5)) ∧
    decode { fmt := .rx, code := 0b01111#8, unit := 8, snap := hhl, now := 5 } = .ok (.rxBit5 (at8 hhl 5)) ∧
    decode { fmt := .rx, code := 0b10000#8, unit := 8, snap := hhl, now := 5 } = .ok (.rxBitw5 (at8 hhl 5)) ∧
    decode { fmt := .rx, code := 0b10001#8, unit := 8, snap := hhl, now := 5 } = .ok (.rxBit6 (at8 hhl 5)) ∧
    decode { fmt := .rx, code := 0b10010#8, unit := 8, snap := hhl, now := 5 } = .ok (.rxBitw6 (at8 hhl 5)) ∧
    decode { fmt := .rx, code := 0b10011#8, unit := 8, snap := hhl, now := 5 } = .ok (.rxBit7 (at8 hhl 5)) ∧
    decode { fmt := .rx, code := 0b10100#8, unit := 8, snap := hhl, now := 5, underAtn := true } = .ok (.rxBitw7Atn (at8 hhl 5)) ∧
    decode { fmt := .rx, code := 0b10100#8, unit := 8, snap := hhl, now := 5 } = .ok (.rxBitw7Listen (at8 hhl 5)) ∧
    decode { fmt := .rx, code := 0b10101#8, unit := 8, snap := hhl, now := 5 } = .ok (.rxDone0 (at8 hhl 5)) ∧
    decode { fmt := .rx, code := 0b10110#8, unit := 8, snap := hhl, now := 5 } = .ok (.rxDone1 (at8 hhl 5)) ∧
    decode { fmt := .rx, code := 0b10111#8, unit := 8, snap := hhl, now := 5 } = .ok (.rxRetry0 (at8 hhl 5)) ∧
    decode { fmt := .rx, code := 0b11000#8, unit := 8, snap := hhl, now := 5 } = .ok (.rxRetry1 (at8 hhl 5)) := by decide

theorem test_decode_transmit :
    decode { fmt := .tx, code := 0b00000#8, unit := 8, snap := hhl, now := 5 } = .ok (.txPre0 (at8 hhl 5)) ∧
    decode { fmt := .tx, code := 0b00001#8, unit := 8, snap := hhl, now := 5 } = .ok (.txPre1 (at8 hhl 5)) ∧
    decode { fmt := .tx, code := 0b00010#8, unit := 8, snap := hhl, now := 5 } = .ok (.txReady (at8 hhl 5)) ∧
    decode { fmt := .tx, code := 0b00011#8, unit := 8, snap := hhl, now := 5 } = .ok (.txEoi (at8 hhl 5)) ∧
    decode { fmt := .tx, code := 0b00100#8, unit := 8, snap := hhl, now := 5 } = .ok (.txEoiw (at8 hhl 5)) ∧
    decode { fmt := .tx, code := 0b00101#8, unit := 8, snap := hhl, now := 5 } = .ok (.txBit0 (at8 hhl 5)) ∧
    decode { fmt := .tx, code := 0b00110#8, unit := 8, snap := hhl, now := 5 } = .ok (.txBitw0 (at8 hhl 5)) ∧
    decode { fmt := .tx, code := 0b00111#8, unit := 8, snap := hhl, now := 5 } = .ok (.txBit1 (at8 hhl 5)) ∧
    decode { fmt := .tx, code := 0b01000#8, unit := 8, snap := hhl, now := 5 } = .ok (.txBitw1 (at8 hhl 5)) ∧
    decode { fmt := .tx, code := 0b01001#8, unit := 8, snap := hhl, now := 5 } = .ok (.txBit2 (at8 hhl 5)) ∧
    decode { fmt := .tx, code := 0b01010#8, unit := 8, snap := hhl, now := 5 } = .ok (.txBitw2 (at8 hhl 5)) ∧
    decode { fmt := .tx, code := 0b01011#8, unit := 8, snap := hhl, now := 5 } = .ok (.txBit3 (at8 hhl 5)) ∧
    decode { fmt := .tx, code := 0b01100#8, unit := 8, snap := hhl, now := 5 } = .ok (.txBitw3 (at8 hhl 5)) ∧
    decode { fmt := .tx, code := 0b01101#8, unit := 8, snap := hhl, now := 5 } = .ok (.txBit4 (at8 hhl 5)) ∧
    decode { fmt := .tx, code := 0b01110#8, unit := 8, snap := hhl, now := 5 } = .ok (.txBitw4 (at8 hhl 5)) ∧
    decode { fmt := .tx, code := 0b01111#8, unit := 8, snap := hhl, now := 5 } = .ok (.txBit5 (at8 hhl 5)) ∧
    decode { fmt := .tx, code := 0b10000#8, unit := 8, snap := hhl, now := 5 } = .ok (.txBitw5 (at8 hhl 5)) ∧
    decode { fmt := .tx, code := 0b10001#8, unit := 8, snap := hhl, now := 5 } = .ok (.txBit6 (at8 hhl 5)) ∧
    decode { fmt := .tx, code := 0b10010#8, unit := 8, snap := hhl, now := 5 } = .ok (.txBitw6 (at8 hhl 5)) ∧
    decode { fmt := .tx, code := 0b10011#8, unit := 8, snap := hhl, now := 5 } = .ok (.txBit7 (at8 hhl 5)) ∧
    decode { fmt := .tx, code := 0b10100#8, unit := 8, snap := hhl, now := 5 } = .ok (.txBitw7 (at8 hhl 5)) ∧
    decode { fmt := .tx, code := 0b10101#8, unit := 8, snap := hhl, now := 5 } = .ok (.txDone0 (at8 hhl 5)) ∧
    decode { fmt := .tx, code := 0b10110#8, unit := 8, snap := hhl, now := 5 } = .ok (.txDone1 (at8 hhl 5)) ∧
    decode { fmt := .tx, code := 0b10111#8, unit := 8, snap := hhl, now := 5 } = .ok (.txRetry0 (at8 hhl 5)) ∧
    decode { fmt := .tx, code := 0b11000#8, unit := 8, snap := hhl, now := 5 } = .ok (.txRetry1 (at8 hhl 5)) := by decide

theorem test_decode_rejects :
    decode { fmt := .ev, code := 0b01#8 } = .error (.noEdge 0b01#8) ∧
    decode { fmt := .ev, code := 0b10#8 } = .error (.noEdge 0b10#8) ∧
    decode { fmt := .dsp, code := 0b111#8 } = .error (.unusedCall 0b111#8) ∧
    decode { fmt := .rx, code := 0b11001#8 } = .error (.notAPhase 0b11001#8) ∧
    decode { fmt := .tx, code := 0b11111#8 } = .error (.notAPhase 0b11111#8) ∧
    decode { fmt := .tx, code := 0b100000#8 } = .error (.codeTooWide .tx 0b100000#8) ∧
    decode { fmt := .ctl, code := 0b1000#8 } = .error (.codeTooWide .ctl 0b1000#8) ∧
    decode { fmt := .fab, code := 0b10#8 } = .error (.codeTooWide .fab 0b10#8) := by decide

theorem test_table_words :
    decodeTableWord 8 0x05 = some (.exec 0) ∧ decodeTableWord 8 0x16 = some (.rxDone1 ⟨0, lll, 0⟩) ∧
    decodeTableWord 8 0x28 = some (.listen 0 8#5) ∧ decodeTableWord 8 0xF2 = some (.openCmd 0 2) ∧
    decodeTableWord 8 0x100 = none := by decide

/-! ### Clock and operands (V-E11 to V-E13; 60_exceptions.md R220) -/

theorem test_us : us 1000000 70 = 70 ∧ us 2000000 70 = 140 ∧ us 985248 70 = 68 ∧ us 10000 70 = 0 ∧
    us 985248 1000 = 985 := by decide
theorem test_elapsed_wraps : elapsed (some 8) 3 250 = 9 ∧ elapsed none 253 250 = 3 := by decide
theorem test_stClass : stClass cfgT 0x00#8 = .ok ∧ stClass cfgT 0x40#8 = .eoi ∧ stClass cfgT 0x42#8 = .error ∧
    stClass cfgT 0x80#8 = .error ∧ stClass cfgT 0xFF#8 = .error := by decide
theorem test_pClass : pClass 0x28#8 8 = .listenMe ∧ pClass 0x28#8 9 = .other ∧ pClass 0x4F#8 15 = .talkMe ∧
    pClass 0x24#8 4 = .listenMe ∧ pClass 0x3F#8 8 = .unlisten ∧ pClass 0x60#8 8 = .other := by decide
theorem test_sClass : secondaryCall 8 0xFF#8 = .openCall 8 15 ∧ secondaryCall 8 0xE0#8 = .closeCall 8 0 ∧
    secondaryCall 8 0x5A#8 = .channelCommand 8 10 ∧ secondaryCall 8 0xDF#8 = .channelCommand 8 15 := by decide
theorem test_config_T_valid : cfgT.Valid := by decide

/-! ### The fabric (V-F1 to V-F10) -/

/-- Two slots driven, the master's drive given. -/
def driven (m : MasterDrive) (w8 w9 : Slot) : State :=
  { one 8 idle w8 with slots := (fresh.slots.set 8 w8).set 9 w9, m := m }

theorem test_fread_V_F5 : (nextOf (exec .fread (driven ⟨false, false, false⟩ clo clo))).map (·.readout) =
    some hlh := by decide
theorem test_fread_V_F9 : (nextOf (exec .fread (driven ⟨true, true, true⟩ rel rel))).map (·.readout) =
    some lll := by decide
theorem test_fwrite_V_F6 : (nextOf (exec (.fwrite 8 false false) (driven ⟨false, false, false⟩ clo clo))).map
    (·.fabricRead) = some hlh := by decide
theorem test_fwrite_V_F10 : (nextOf (exec (.fwrite 8 false true) (driven ⟨false, false, false⟩ ⟨true, true⟩ rel))).map
    (·.fabricRead) = some hhl := by decide

/-! ### The controller (95_test_vectors.md section 7.2) -/

theorem test_nop : after .nop 8 (one 8 (ua .pre0 3) dat) = some (ua .pre0 3, dat, []) := by decide
theorem test_init : (nextOf (exec .init { one 8 idle clo with initialized := false })).map
    (fun t => (t.initialized, t.slot 8)) = some (true, rel) := by decide
theorem test_enable_range : (nextOf (exec (.enable 16) fresh)).map (fun t => (t.enableResult, t.initialized)) =
    some (some .errRange, false) := by decide
theorem test_enable_ok : (nextOf (exec (.enable 8) (one 8 { DeviceState.powerOn with stamp := 5, byte := 3#8 } rel))).map
    (fun t => (t.enableResult, t.dev 8)) = some (some .ok, idle) := by decide
theorem test_disable : after (.disable 8) 8 (one 8 (ua .ready 5) dat) =
    some ({ DeviceState.powerOn with stamp := 5 }, rel, []) := by decide
theorem test_reset : after .reset 8 (one 8 (ua .pre0 9) dat) = some (idle, rel, []) := by decide
theorem test_exec_fall : after (.exec 0) 8 { one 8 idle rel with m := ⟨true, true, false⟩ } =
    some (ua .pre0 0, dat, []) := by decide
theorem test_exec_uninitialized : after (.exec 0) 8
    { one 8 idle rel with initialized := false, m := ⟨true, true, false⟩ } = some (idle, rel, []) := by decide

/-! ### The commands and the ATN edges (V-A1 to V-A20) -/

/-- Under ATN with the primary byte `p` captured, `n` address bytes, and the secondary bytes given. -/
def cap (p : Byte) (n : Fin 3) (sec prev : Byte) (l t : Bool := false) : DeviceState :=
  { ua .pre1 400 with primary := p, addrCount := n, secondary := sec, secPrev := prev, listening := l, talking := t }

theorem test_listen : after (.listen 8 8#5) 8 (one 8 (cap 0x28#8 2 0xF2#8 0#8) dat) =
    some ({ cap 0x28#8 2 0xF2#8 0#8 with listening := true }, dat, [.openCall 8 2]) := by decide
theorem test_listen_other_address : after (.listen 8 9#5) 8 (one 8 (cap 0x29#8 1 0#8 0x62#8 true) rel) =
    some ({ cap 0x29#8 1 0#8 0x62#8 true with secondary := 0x62#8 }, rel, []) := by decide
theorem test_talk : after (.talk 8 8#5) 8 (one 8 (cap 0x48#8 2 0x6F#8 0x62#8 true) dat) =
    some ({ cap 0x48#8 2 0x6F#8 0x62#8 with talking := true }, dat, [.channelCommand 8 15]) := by decide
theorem test_unlisten : after (.unlisten 8) 8
      (one 8 { cap 0x3F#8 1 0#8 0xF2#8 true with status := st1 2 0x08#8 } dat ⟨0#8, 0x09#8⟩) =
    some ({ cap 0x3F#8 1 0#8 0xF2#8 with status := st1 2 0x09#8 }, dat, [.unlisten 8 2 0x08#8]) := by decide
theorem test_untalk : after (.untalk 8) 8 (one 8 (cap 0x5F#8 1 0#8 0x63#8 false true) dat ⟨0#8, 0x42#8⟩) =
    some ({ cap 0x5F#8 1 0#8 0x63#8 with status := st1 3 0x42#8 }, dat, [.untalk 8 3 0#8]) := by decide
theorem test_untalk_listener : after (.untalk 8) 8 (one 8 (cap 0x5F#8 1 0#8 0x62#8 true) dat) =
    some ({ cap 0x5F#8 1 0#8 0x62#8 true with secondary := 0x62#8 }, dat, []) := by decide
theorem test_other : after (.other 8 0x68#8) 8 (one 8 (cap 0x68#8 1 0#8 0#8) rel) =
    some (cap 0x68#8 1 0#8 0#8, rel, []) := by decide
theorem test_openCmd : after (.openCmd 8 2) 8 (one 8 (cap 0x28#8 2 0xF2#8 0#8) dat ⟨0#8, 0x11#8⟩) =
    some ({ cap 0x28#8 2 0xF2#8 0#8 with status := st1 2 0x11#8 }, dat, [.openCall 8 2]) := by decide
theorem test_closeCmd : after (.closeCmd 8 5) 8 (one 8 (cap 0x28#8 2 0xE5#8 0#8) dat ⟨0#8, 0x42#8⟩) =
    some ({ cap 0x28#8 2 0xE5#8 0#8 with status := st1 5 0x42#8 }, dat, [.closeCall 8 5]) := by decide
theorem test_dataCmd : after (.dataCmd 8 0#4 15) 8 (one 8 (cap 0x28#8 2 0x0F#8 0#8) dat ⟨0#8, 0x07#8⟩) =
    some ({ cap 0x28#8 2 0x0F#8 0#8 with status := st1 15 0x07#8 }, dat, [.channelCommand 8 15]) := by decide
theorem test_atnFall_V_A19 : after (.atnFall (at8 lll 300)) 8 (one 8 { ta .bitw 290 with cursor := 3 } dat) =
    some ({ ua .pre0 300 with talking := true, secPrev := 0x60#8, cursor := 3 }, dat, []) := by decide
theorem test_atnRise_V_A1 : after (.atnRise (at8 hhh 500)) 8 (one 8 (cap 0x28#8 2 0xF2#8 0#8) dat) =
    some ({ cap 0x28#8 2 0xF2#8 0#8 with atn := false, listening := true, phase := .pre0, stamp := 500 }, dat,
      [.openCall 8 2]) := by decide
theorem test_atnRise_V_A11 : after (.atnRise (at8 hhh 500)) 8 (one 8 (cap 0x3F#8 1 0#8 0x60#8 false true) dat) =
    some ({ cap 0x3F#8 1 0#8 0x60#8 false true with
      atn := false, phase := .pre0, stamp := 500, secondary := 0x60#8 }, rel, []) := by decide

/-! ### The Dispatcher calls (45_dispatcher.md R191 to R198) -/

theorem test_dispOpen : after (.dispOpen 8 2) 8 (one 8 idle clo ⟨0x55#8, 0x42#8⟩) =
    some ({ idle with status := st1 2 0x42#8 }, clo, [.openCall 8 2]) := by decide
theorem test_dispClose : after (.dispClose 8 2) 8 (one 8 idle clo ⟨0x55#8, 0x42#8⟩) =
    some ({ idle with status := st1 2 0x42#8 }, clo, [.closeCall 8 2]) := by decide
theorem test_dispChannelCommand : after (.dispChannelCommand 8 2) 8 (one 8 idle clo ⟨0x55#8, 0x42#8⟩) =
    some ({ idle with status := st1 2 0x42#8 }, clo, [.channelCommand 8 2]) := by decide
theorem test_dispWrite : after (.dispWrite 8 2 0x44#8) 8 (one 8 idle clo ⟨0x55#8, 0x42#8⟩) =
    some ({ idle with status := st1 2 0x42#8 }, clo, [.write 8 2 0x44#8]) := by decide
theorem test_dispRead : after (.dispRead 8 2) 8 (one 8 idle clo ⟨0x55#8, 0x42#8⟩) =
    some ({ idle with status := st1 2 0x42#8 }, clo, [.read 8 2]) := by decide
theorem test_dispUnlisten : after (.dispUnlisten 8 2 0x08#8) 8 (one 8 idle clo ⟨0x55#8, 0x42#8⟩) =
    some ({ idle with status := st1 2 0x42#8 }, clo, [.unlisten 8 2 0x08#8]) := by decide
theorem test_dispUntalk : after (.dispUntalk 8 2 0x08#8) 8 (one 8 idle clo ⟨0x55#8, 0x42#8⟩) =
    some ({ idle with status := st1 2 0x42#8 }, clo, [.untalk 8 2 0x08#8]) := by decide

/-! ### The receive rows (V-RX1 to V-RX28) -/

theorem test_rxPre0_V_RX1 : after (.rxPre0 (at8 lhl 12)) 8 (one 8 (ua .pre0 10) dat) =
    some (ua .pre0 10, dat, []) := by decide
theorem test_rxPre0_V_RX2 : after (.rxPre0 (at8 lll 13)) 8 (one 8 (ua .pre0 10) dat) =
    some (ua .pre1 13, dat, []) := by decide
theorem test_rxPre1_V_RX3 : after (.rxPre1 (at8 lll 14)) 8 (one 8 (ua .pre1 13) dat) =
    some (ua .pre1 13, dat, []) := by decide
theorem test_rxPre1_V_RX4 : after (.rxPre1 (at8 lhl 20)) 8 (one 8 (ua .pre1 13) dat) =
    some (ua .ready 20, rel, []) := by decide
theorem test_rxReady_V_RX5 : after (.rxReady (at8 lhh 1000)) 8 (one 8 (ua .ready 20) rel) =
    some (ua .ready 20, rel, []) := by decide
theorem test_rxReady_V_RX7 : after (.rxReady (at8 hhh 28)) 8 (one 8 (li .ready 20) rel) =
    some (li .eoi 28, dat, []) := by decide
theorem test_rxEoi_V_RX9 : after (.rxEoi (at8 hhl 30)) 8 (one 8 (li .eoi 28) dat) =
    some (li .eoi 28, dat, []) := by decide
theorem test_rxEoi_V_RX10 : after (.rxEoi (at8 hhl 31)) 8 (one 8 (li .eoi 28) dat) =
    some (li .eoiw 31, rel, []) := by decide
theorem test_rxEoiw_V_RX11 : after (.rxEoiw (at8 hhh 90)) 8 (one 8 (li .eoiw 31) rel) =
    some (li .eoiw 31, rel, []) := by decide
theorem test_rxEoiw_V_RX12 : after (.rxEoiw (at8 hlh 91)) 8 (one 8 { li .eoiw 31 with cursor := 7 } rel) =
    some (li .bit 91, rel, []) := by decide
theorem test_rxBit0 : after (.rxBit0 (at8 hhh 95)) 8 (one 8 { li .bit 90 with cursor := 0, byte := 0xFE#8 } rel) =
    some ({ li .bitw 95 with cursor := 0, byte := 0xFF#8 }, rel, []) := by decide
theorem test_rxBit1 : after (.rxBit1 (at8 hhl 95)) 8 (one 8 { li .bit 90 with cursor := 1, byte := 0xFF#8 } rel) =
    some ({ li .bitw 95 with cursor := 1, byte := 0xFD#8 }, rel, []) := by decide
theorem test_rxBit2 : after (.rxBit2 (at8 hhh 95)) 8 (one 8 { li .bit 90 with cursor := 2, byte := 0xFB#8 } rel) =
    some ({ li .bitw 95 with cursor := 2, byte := 0xFF#8 }, rel, []) := by decide
theorem test_rxBit3 : after (.rxBit3 (at8 hhl 95)) 8 (one 8 { li .bit 90 with cursor := 3, byte := 0xFF#8 } rel) =
    some ({ li .bitw 95 with cursor := 3, byte := 0xF7#8 }, rel, []) := by decide
theorem test_rxBit4 : after (.rxBit4 (at8 hhh 95)) 8 (one 8 { li .bit 90 with cursor := 4, byte := 0xEF#8 } rel) =
    some ({ li .bitw 95 with cursor := 4, byte := 0xFF#8 }, rel, []) := by decide
theorem test_rxBit5 : after (.rxBit5 (at8 hhl 95)) 8 (one 8 { li .bit 90 with cursor := 5, byte := 0xFF#8 } rel) =
    some ({ li .bitw 95 with cursor := 5, byte := 0xDF#8 }, rel, []) := by decide
theorem test_rxBit6 : after (.rxBit6 (at8 hhh 95)) 8 (one 8 { li .bit 90 with cursor := 6, byte := 0xBF#8 } rel) =
    some ({ li .bitw 95 with cursor := 6, byte := 0xFF#8 }, rel, []) := by decide
theorem test_rxBit7 : after (.rxBit7 (at8 hhl 95)) 8 (one 8 { li .bit 90 with cursor := 7, byte := 0xFF#8 } rel) =
    some ({ li .bitw 95 with cursor := 7, byte := 0x7F#8 }, rel, []) := by decide
theorem test_rxBit5_V_RX15 : after (.rxBit5 (at8 hll 105)) 8 (one 8 { li .bit 90 with cursor := 5, byte := 0xE4#8 } rel) =
    some ({ li .bit 90 with cursor := 5, byte := 0xE4#8 }, rel, []) := by decide
theorem test_rxBitw0 : after (.rxBitw0 (at8 hlh 109)) 8 (one 8 { li .bitw 108 with cursor := 0 } rel) =
    some ({ li .bit 109 with cursor := 1 }, rel, []) := by decide
theorem test_rxBitw1 : after (.rxBitw1 (at8 hlh 109)) 8 (one 8 { li .bitw 108 with cursor := 1 } rel) =
    some ({ li .bit 109 with cursor := 2 }, rel, []) := by decide
theorem test_rxBitw2 : after (.rxBitw2 (at8 hlh 109)) 8 (one 8 { li .bitw 108 with cursor := 2 } rel) =
    some ({ li .bit 109 with cursor := 3 }, rel, []) := by decide
theorem test_rxBitw3 : after (.rxBitw3 (at8 hlh 109)) 8 (one 8 { li .bitw 108 with cursor := 3 } rel) =
    some ({ li .bit 109 with cursor := 4 }, rel, []) := by decide
theorem test_rxBitw4 : after (.rxBitw4 (at8 hlh 109)) 8 (one 8 { li .bitw 108 with cursor := 4 } rel) =
    some ({ li .bit 109 with cursor := 5 }, rel, []) := by decide
theorem test_rxBitw5 : after (.rxBitw5 (at8 hlh 109)) 8 (one 8 { li .bitw 108 with cursor := 5 } rel) =
    some ({ li .bit 109 with cursor := 6 }, rel, []) := by decide
theorem test_rxBitw6 : after (.rxBitw6 (at8 hlh 109)) 8 (one 8 { li .bitw 108 with cursor := 6 } rel) =
    some ({ li .bit 109 with cursor := 7 }, rel, []) := by decide
theorem test_rxBitw5_V_RX17 : after (.rxBitw5 (at8 hhl 108)) 8 (one 8 { li .bitw 105 with cursor := 5 } rel) =
    some ({ li .bitw 105 with cursor := 5 }, rel, []) := by decide
theorem test_rxBitw7Atn_V_RX22 : after (.rxBitw7Atn (at8 llh 41)) 8 (one 8 { ua .bitw 39 with cursor := 7, byte := 0x28#8 } rel) =
    some ({ ua .pre1 41 with cursor := 7, byte := 0x28#8, primary := 0x28#8, addrCount := 1 }, dat, []) := by decide
theorem test_rxBitw7Atn_V_RX26 : after (.rxBitw7Atn (at8 llh 234)) 8 (one 8 { cap 0x28#8 2 0xE5#8 0#8 with phase := .bitw, cursor := 7, byte := 0x3F#8 } rel) =
    some ({ cap 0x28#8 2 0xE5#8 0#8 with cursor := 7, byte := 0x3F#8, stamp := 234 }, dat, []) := by decide
theorem test_rxBitw7Listen_V_RX18 : after (.rxBitw7Listen (at8 hlh 117)) 8 (one 8 { li .bitw 115 with cursor := 7, byte := 0x44#8 } rel) =
    some ({ li .pre1 117 with cursor := 7, byte := 0x44#8 }, dat, [.write 8 2 0x44#8]) := by decide
theorem test_rxBitw7Listen_V_RX20 : after (.rxBitw7Listen (at8 hlh 117)) 8 (one 8 { li .bitw 115 with cursor := 7, byte := 0x44#8 } rel ⟨0#8, 0x40#8⟩) =
    some ({ li .done1 117 with cursor := 7, byte := 0x44#8, status := st1 2 0x40#8 }, rel, [.write 8 2 0x44#8]) := by decide
theorem test_rxDone0_V_RX21 : after (.rxDone0 (at8 hll 9999)) 8 (one 8 (li .done0 117) rel) =
    some (li .done0 117, rel, []) := by decide
theorem test_rxDone1_V_RX21 : after (.rxDone1 (at8 hll 9999)) 8 (one 8 (li .done1 117) rel) =
    some (li .done1 117, rel, []) := by decide
theorem test_rxRetry0_V_RX21 : after (.rxRetry0 (at8 hll 9999)) 8 (one 8 (li .retry0 117) rel) =
    some (li .retry0 117, rel, []) := by decide
theorem test_rxRetry1_V_RX21 : after (.rxRetry1 (at8 hll 9999)) 8 (one 8 (li .retry1 117) rel) =
    some (li .retry1 117, rel, []) := by decide

/-! ### The transmit rows (V-TX1 to V-TX26) -/

theorem test_txPre0_V_TX1 : after (.txPre0 (at8 hll 79)) 8 (one 8 (ta .pre0 79) rel) =
    some (ta .pre0 79, rel, []) := by decide
theorem test_txPre0_V_TX3 : after (.txPre0 (at8 hhl 80)) 8 (one 8 (ta .pre0 79) rel) =
    some (ta .pre1 80, clo, []) := by decide
theorem test_txPre1_V_TX4 : after (.txPre1 (at8 hll 81)) 8 (one 8 (ta .pre1 80) clo) =
    some (ta .pre1 80, clo, []) := by decide
theorem test_txPre1_V_TX5 : after (.txPre1 (at8 hll 82)) 8 (one 8 (ta .pre1 80) clo) =
    some (ta .ready 82, rel, []) := by decide
theorem test_txReady_V_TX7 : after (.txReady (at8 hhh 83)) 8 (one 8 { ta .ready 82 with cursor := 7 } rel ⟨0x58#8, 0x00#8⟩) =
    some ({ ta .bit 83 with byte := 0x58#8 }, rel, [.read 8 0]) := by decide
theorem test_txReady_V_TX9 : after (.txReady (at8 hhh 83)) 8 (one 8 { ta .ready 82 with byte := 0x60#8 } rel ⟨0x0D#8, 0x02#8⟩) =
    some ({ ta .pre0 83 with byte := 0x60#8, talking := false, status := st1 0 0x02#8 }, rel, [.read 8 0]) := by decide
theorem test_txEoi_V_TX10 : after (.txEoi (at8 hhh 166)) 8 (one 8 (ta .eoi 159) rel) =
    some (ta .eoi 159, rel, []) := by decide
theorem test_txEoi_V_TX11 : after (.txEoi (at8 hhl 167)) 8 (one 8 (ta .eoi 159) rel) =
    some (ta .eoiw 167, rel, []) := by decide
theorem test_txEoiw_V_TX12 : after (.txEoiw (at8 hhl 169)) 8 (one 8 (ta .eoiw 167) rel) =
    some (ta .eoiw 167, rel, []) := by decide
theorem test_txEoiw_V_TX13 : after (.txEoiw (at8 hhh 170)) 8 (one 8 { ta .eoiw 167 with cursor := 7 } rel) =
    some (ta .bit 170, rel, []) := by decide
theorem test_txBit0 : after (.txBit0 (at8 hhh 97)) 8 (one 8 { ta .bit 95 with cursor := 0, byte := 0x58#8 } rel) =
    some ({ ta .bitw 97 with cursor := 0, byte := 0x58#8 }, ⟨true, true⟩, []) := by decide
theorem test_txBit1 : after (.txBit1 (at8 hhh 97)) 8 (one 8 { ta .bit 95 with cursor := 1, byte := 0x58#8 } rel) =
    some ({ ta .bitw 97 with cursor := 1, byte := 0x58#8 }, ⟨true, true⟩, []) := by decide
theorem test_txBit2 : after (.txBit2 (at8 hhh 97)) 8 (one 8 { ta .bit 95 with cursor := 2, byte := 0x58#8 } rel) =
    some ({ ta .bitw 97 with cursor := 2, byte := 0x58#8 }, ⟨true, true⟩, []) := by decide
theorem test_txBit3 : after (.txBit3 (at8 hhh 97)) 8 (one 8 { ta .bit 95 with cursor := 3, byte := 0x58#8 } rel) =
    some ({ ta .bitw 97 with cursor := 3, byte := 0x58#8 }, clo, []) := by decide
theorem test_txBit4 : after (.txBit4 (at8 hhh 97)) 8 (one 8 { ta .bit 95 with cursor := 4, byte := 0x58#8 } rel) =
    some ({ ta .bitw 97 with cursor := 4, byte := 0x58#8 }, clo, []) := by decide
theorem test_txBit5 : after (.txBit5 (at8 hhh 97)) 8 (one 8 { ta .bit 95 with cursor := 5, byte := 0x58#8 } rel) =
    some ({ ta .bitw 97 with cursor := 5, byte := 0x58#8 }, ⟨true, true⟩, []) := by decide
theorem test_txBit6 : after (.txBit6 (at8 hhh 97)) 8 (one 8 { ta .bit 95 with cursor := 6, byte := 0x58#8 } rel) =
    some ({ ta .bitw 97 with cursor := 6, byte := 0x58#8 }, clo, []) := by decide
theorem test_txBit7 : after (.txBit7 (at8 hhh 97)) 8 (one 8 { ta .bit 95 with cursor := 7, byte := 0x58#8 } rel) =
    some ({ ta .bitw 97 with cursor := 7, byte := 0x58#8 }, ⟨true, true⟩, []) := by decide
theorem test_txBitw0 : after (.txBitw0 (at8 hlh 99)) 8 (one 8 { ta .bitw 97 with cursor := 0, byte := 0x58#8 } ⟨true, true⟩) =
    some ({ ta .bit 99 with cursor := 1, byte := 0x58#8 }, dat, []) := by decide
theorem test_txBitw1 : after (.txBitw1 (at8 hlh 99)) 8 (one 8 { ta .bitw 97 with cursor := 1, byte := 0x58#8 } ⟨true, true⟩) =
    some ({ ta .bit 99 with cursor := 2, byte := 0x58#8 }, dat, []) := by decide
theorem test_txBitw2 : after (.txBitw2 (at8 hlh 99)) 8 (one 8 { ta .bitw 97 with cursor := 2, byte := 0x58#8 } ⟨true, true⟩) =
    some ({ ta .bit 99 with cursor := 3, byte := 0x58#8 }, dat, []) := by decide
theorem test_txBitw3 : after (.txBitw3 (at8 hlh 99)) 8 (one 8 { ta .bitw 97 with cursor := 3, byte := 0x58#8 } clo) =
    some ({ ta .bit 99 with cursor := 4, byte := 0x58#8 }, rel, []) := by decide
theorem test_txBitw4 : after (.txBitw4 (at8 hlh 99)) 8 (one 8 { ta .bitw 97 with cursor := 4, byte := 0x58#8 } clo) =
    some ({ ta .bit 99 with cursor := 5, byte := 0x58#8 }, rel, []) := by decide
theorem test_txBitw5 : after (.txBitw5 (at8 hlh 99)) 8 (one 8 { ta .bitw 97 with cursor := 5, byte := 0x58#8 } ⟨true, true⟩) =
    some ({ ta .bit 99 with cursor := 6, byte := 0x58#8 }, dat, []) := by decide
theorem test_txBitw6 : after (.txBitw6 (at8 hlh 99)) 8 (one 8 { ta .bitw 97 with cursor := 6, byte := 0x58#8 } clo) =
    some ({ ta .bit 99 with cursor := 7, byte := 0x58#8 }, rel, []) := by decide
theorem test_txBitw7 : after (.txBitw7 (at8 hlh 99)) 8 (one 8 { ta .bitw 97 with cursor := 7, byte := 0x58#8 } ⟨true, true⟩) =
    some ({ ta .done0 99 with cursor := 7, byte := 0x58#8 }, dat, []) := by decide
theorem test_txDone0_V_TX19 : after (.txDone0 (at8 hhl 117)) 8 (one 8 { ta .done0 115 with cursor := 7 } dat) =
    some ({ ta .done1 117 with cursor := 7 }, clo, []) := by decide
theorem test_txDone1_V_TX21 : after (.txDone1 (at8 hll 205)) 8 (one 8 { ta .done1 204 with status := st1 0 0x40#8 } clo) =
    some ({ ta .pre0 205 with talking := false, status := st1 0 0x40#8 }, rel, []) := by decide
theorem test_txDone1_V_TX24 : after (.txDone1 (at8 hll 127)) 8 (one 8 (ta .done1 117) clo) =
    some (ta .pre1 127, clo, []) := by decide
theorem test_txRetry0_V_TX25 : after (.txRetry0 (at8 hhh 129)) 8 (one 8 (ta .retry0 127) rel) =
    some (ta .retry1 129, clo, []) := by decide
theorem test_txRetry1_V_TX26 : after (.txRetry1 (at8 hlh 131)) 8 (one 8 { ta .retry1 129 with cursor := 7, byte := 0xA5#8 } clo) =
    some ({ ta .bit 131 with byte := 0xA5#8 }, rel, []) := by decide

/-! ### Rows that are not selected, and the step -/

theorem test_row_not_selected : after (.txPre0 (at8 hhl 80)) 8 (one 8 (li .pre0 79) dat) =
    some (li .pre0 79, dat, []) := by decide
theorem test_step_takes_the_port :
    (nextOf (step { fresh with port := [⟨⟨true, false, true⟩, { fmt := .ctl, code := 2#8, num := 8 }⟩] })).map
      (fun t => (t.port, t.m, t.enableResult)) = some ([], ⟨true, false, true⟩, some .ok) := by decide

/-! ### Witnesses: for every obligation with hypotheses, concrete values that meet them, one for each clause, at
the boundary of its range where it has one -/

/-- The DeviceState that a witness names is the one its state holds, so its phase, cursor, bytes and flags are
those the statement reads. -/
theorem one_dev (d : DeviceState) (w : Slot) (a : Answer) : (one 8 d w a).dev 8 = d := by
  simp [one, State.dev]

/-- A receiving unit 8 in DeviceState `d`, seeing `S` at `now`. -/
abbrev Rx (d : DeviceState) (S : Snapshot) (now : Nat) (underAtn : Bool) : Prop :=
  Receiving (one 8 d rel) (at8 S now) underAtn

/-- A transmitting unit 8 in DeviceState `d`, seeing `S` at `now`. -/
abbrev Tx (d : DeviceState) (S : Snapshot) (now : Nat) : Prop := Transmitting (one 8 d rel) (at8 S now)

/-- The time unit 8 has been in its phase, when it entered it at the stamp of `d`. -/
def el (d : DeviceState) (now : Nat) : Nat := (one 8 d rel).elapsed 8 now

/-- The state before a rising edge in which the unit's DeviceState is `d`. -/
abbrev Rise (d : DeviceState) : Prop :=
  Stepped (one 8 d dat) 8 ∧ ClockOk (one 8 d dat) 500 ∧ ((one 8 d dat).dev 8).atn = true ∧ hhh.atn = true

/-- The state in which unit 8 has captured its bytes. -/
abbrev Captured (d : DeviceState) : Prop :=
  Stepped (one 8 d dat) 8 ∧ ((one 8 d dat).dev 8).atn = true ∧ 1 ≤ ((one 8 d dat).dev 8).addrCount.val

theorem witness_StepRunsTheNextOperation :
    fresh.port = [] ∧ decode { fmt := .ctl, code := 5#8, now := 7 } = .ok (.exec 7) ∧
    decode { fmt := .dsp, code := 7#8 } = .error (.unusedCall 7#8) := by decide

theorem witness_DecodeOfEncode :
    (Instr.listen 0 30#5).wellFormed = true ∧ (Instr.other 30 0x1F#8).wellFormed = true ∧
    (Instr.other 30 0x60#8).wellFormed = true ∧ (Instr.dataCmd 4 0xD#4 15).wellFormed = true := by decide

theorem witness_DecodedInstructionsAreWellFormed :
    decode { fmt := .p, code := 0x3E#8, unit := 8 } = .ok (.listen 8 30#5) := by decide

theorem witness_ElapsedIsTheClockDifference : (7 : Nat) ≤ 7 ∧ (7 : Nat) ≤ 1000 := by decide

/-- A talker in the middle of a byte, with an `exec` waiting at the port. -/
def talker : State :=
  { one 8 { ta .bitw 97 with cursor := 3, byte := 0x58#8 } ⟨true, true⟩ with
    lastNow := some 97, port := [⟨⟨false, false, false⟩, { fmt := .ctl, code := 5#8, now := 99 }⟩] }

theorem talker_others : ∀ u : UnitNo, u ≠ 8 → talker.dev u = DeviceState.powerOn ∧ talker.slot u = rel := by
  decide

theorem witness_StepKeepsTheInvariant : BlockInv talker ∧ ∃ t, step talker = .next t := by
  refine ⟨⟨by unfold HostOnly; decide, fun u => ?_⟩, _, rfl⟩
  by_cases h : u = 8
  · subst h
    exact ⟨by decide, by decide, by decide, by decide, by decide,
      show (_ ↔ _) ∧ (_ → _) by decide, fun _ _ => by decide⟩
  · obtain ⟨hd, hs⟩ := talker_others u h
    simp [UnitOk, DriveOk, DeviceState.regime, DeviceState.powerOn, hd, hs, rel]

theorem witness_FabricWriteReplacesOneSlot :
    inRange fresh.cfg 4 = true ∧ inRange fresh.cfg 15 = true ∧ inRange fresh.cfg 3 = false ∧
    inRange fresh.cfg 16 = false := by decide

theorem witness_LastDriverReleasesTheLine :
    inRange cfgT 8 = true ∧ inRange cfgT 9 = true ∧ (8 : UnitNo) ≠ 9 ∧
    ((driven ⟨false, false, false⟩ dat dat).slot 8).dataLow = true ∧
    ((driven ⟨false, false, false⟩ dat dat).slot 9).dataLow = true ∧
    ((driven ⟨false, false, false⟩ clo clo).slot 8).clkLow = true ∧
    ((driven ⟨false, false, false⟩ clo clo).slot 9).clkLow = true := by decide

theorem witness_SlotWriteOrderIsImmaterial : (8 : UnitNo) ≠ 9 := by decide

theorem witness_NoInstructionTouchesConfigOrMaster : ∃ t, exec (.fwrite 8 true false) fresh = .next t := ⟨_, rfl⟩

theorem witness_InitReleasesEverySlotOnce :
    (one 8 idle rel).initialized = true ∧ fresh.initialized = false := by decide

theorem witness_EnableRejectsOrClears :
    (3 : Int) < (fresh.cfg.unitMin.val : Int) ∧ (fresh.cfg.unitMax.val : Int) < 16 ∧
    (((4 : UnitNo).val : Int) = 4 ∧ inRange fresh.cfg 4 = true ∧ (fresh.dev 4).enabled = false) ∧
    (((15 : UnitNo).val : Int) = 15 ∧ inRange fresh.cfg 15 = true ∧ (fresh.dev 15).enabled = false) ∧
    (((one 8 idle rel).dev 8).enabled = true ∧ (one 8 idle rel).initialized = true ∧
      inRange (one 8 idle rel).cfg 8 = true) := by decide

theorem witness_DisableReleasesAndIsIdempotent :
    (-1 : Int) < (fresh.cfg.unitMin.val : Int) ∧ (fresh.cfg.unitMax.val : Int) < 99 ∧
    (inRange fresh.cfg 8 = true ∧ (fresh.dev 8).enabled = false) ∧
    (inRange fresh.cfg 8 = true ∧ ((one 8 (ua .ready 5) rel).dev 8).enabled = true) ∧
    ∃ t, exec (.disable 8) (one 8 (ua .ready 5) rel) = .next t :=
  ⟨by decide, by decide, by decide, by decide, _, rfl⟩

theorem witness_ResetClearsEnabledUnits : Stepped (one 8 (ua .ready 5) dat) 8 ∧ ¬ Stepped (one 8 idle rel) 9 := by
  unfold Stepped; decide

theorem witness_ExecStepsEachEnabledUnitOnOneSnapshot :
    talker.initialized = true ∧ ClockOk talker 97 ∧ Stepped talker 8 ∧ ¬ Stepped talker 15 := by
  unfold ClockOk Stepped; decide

theorem witness_ExecBeforeInitAndBackwardClock :
    fresh.initialized = false ∧
    (talker.initialized = true ∧ talker.cfg.clockW = none ∧ talker.lastNow = some 97 ∧ (96 : Nat) < 97) := by
  decide

/-- A talker that is ready, on a free bus: its step reads a byte. -/
def reader : State := one 8 (ta .ready 82) rel ⟨0x58#8, 0x42#8⟩

theorem witness_ExecCallsAscendByUnit :
    ∃ t, exec (.exec 83) reader = .next t ∧ t.calls.map (·.call) = [.read 8 0] := ⟨_, rfl, by decide⟩

theorem witness_LifecycleOperationsMakeNoCall :
    (∃ t, exec .nop reader = .next t) ∧ (∃ t, exec .init reader = .next t) ∧
    (∃ t, exec (.enable 9) reader = .next t) ∧ (∃ t, exec (.disable 8) reader = .next t) ∧
    ∃ t, exec .reset reader = .next t :=
  ⟨⟨_, rfl⟩, ⟨_, rfl⟩, ⟨_, rfl⟩, ⟨_, rfl⟩, _, rfl⟩

theorem witness_ExecSettlesEveryAtnEdge :
    reader.initialized = true ∧ (∃ t, exec (.exec 83) reader = .next t) ∧ Stepped reader 8 :=
  ⟨rfl, ⟨_, rfl⟩, by unfold Stepped; decide⟩

/-- Unit 8 has captured TALK 8, DATA 15, and ATN has risen. -/
def addressed : State := one 8 (cap 0x48#8 2 0x6F#8 0#8) dat

theorem witness_OnlyTheAddressedUnitBecomesTalker :
    (∃ t, exec (.exec 500) addressed = .next t ∧ (addressed.dev 8).talking = false ∧
      (t.dev 8).talking = true) ∧
    (∀ u, (addressed.dev u).talking = false) ∧
    ∀ u v, Stepped addressed u → Stepped addressed v → (addressed.dev u).primary = (addressed.dev v).primary := by
  refine ⟨⟨_, rfl, by decide, by decide⟩, by decide, fun u v hu hv => ?_⟩
  have only : ∀ w, (addressed.dev w).enabled = true → w = 8 := by decide
  rw [only u hu.2.2, only v hv.2.2]

theorem witness_StatusChangesOnlyByLatch :
    ∃ t, exec (.exec 83) reader = .next t ∧ t.statusOf 8 0 ≠ reader.statusOf 8 0 := ⟨_, rfl, by decide⟩

theorem witness_UnitStepIsTheSelectedRow :
    (Stepped (one 8 idle rel) 8 ∧ ClockOk (one 8 idle rel) 0 ∧ idle.atn = false ∧ lhh.atn = false) ∧
    Rise (cap 0x28#8 2 0xF2#8 0#8) ∧
    (Stepped (one 8 (ua .bitw 3) rel) 8 ∧ (ua .bitw 3).atn = !llh.atn ∧ (ua .bitw 3).atn = true) ∧
    (Stepped (one 8 (li .bitw 3) rel) 8 ∧ (li .bitw 3).atn = !hlh.atn ∧ (li .bitw 3).listening = true) ∧
    (Stepped (one 8 (ta .bitw 3) rel) 8 ∧ (ta .bitw 3).atn = false ∧ hhh.atn = true ∧
      (ta .bitw 3).listening = false ∧ (ta .bitw 3).talking = true) ∧
    (idle.atn = false ∧ hhh.atn = true ∧ idle.listening = false ∧ idle.talking = false) := by
  unfold Rise Stepped ClockOk; decide

theorem witness_RowNotSelectedChangesNothing :
    ClockOk (one 8 (li .pre0 79) dat) 80 ∧
    decode (stepWord .rx 1#8 (at8 hhh 80)) = .ok (.rxPre1 (at8 hhh 80)) ∧
    phaseCode (li .pre0 79).phase (li .pre0 79).cursor ≠ (1#8 : BitVec 8).toNat ∧
    (ta .pre0 79).receives hhh = false ∧ fresh.active 8 = false ∧
    (decode (stepWord .rx 20#8 (at8 hhl 80) true) = .ok (.rxBitw7Atn (at8 hhl 80)) ∧
      (20#8 : BitVec 8).toNat = 20 ∧ true ≠ { li .bitw 79 with cursor := 7 }.atn) ∧
    (decode (stepWord .rx 20#8 (at8 lhl 80)) = .ok (.rxBitw7Listen (at8 lhl 80)) ∧
      false ≠ { ua .bitw 79 with cursor := 7 }.atn) ∧
    decode (stepWord .tx 0#8 (at8 hhl 80)) = .ok (.txPre0 (at8 hhl 80)) ∧
    (li .pre0 79).transmits hhl = false ∧
    phaseCode (ta .pre1 79).phase (ta .pre1 79).cursor ≠ (0#8 : BitVec 8).toNat ∧
    (li .pre0 79).seesFall hhh = false ∧ (li .pre0 79).seesRise hhh = false := by
  unfold ClockOk; decide

theorem witness_RowWithBackwardClockIsRefused :
    talker.cfg.clockW = none ∧ talker.lastNow = some 97 ∧ (at8 hhh 96).now < 97 ∧
    decode (stepWord .rx 0b10101#8 (at8 hhh 96)) = .ok (.rxDone0 (at8 hhh 96)) ∧
    decode (stepWord .tx 0b10101#8 (at8 hhh 96)) = .ok (.txDone0 (at8 hhh 96)) := by decide

theorem witness_CommandRowWithoutItsByteChangesNothing :
    decode { fmt := .p, code := 0x28#8, unit := 8 } = .ok (.listen 8 8#5) ∧
    decode { fmt := .s, code := 0xF2#8, unit := 8 } = .ok (.openCmd 8 2) ∧
    ¬ Stepped fresh 8 ∧ ((one 8 (li .pre1 5) dat).dev 8).atn = false ∧
    ((one 8 (cap 0#8 0 0#8 0#8) dat).dev 8).addrCount = 0 ∧
    ((one 8 (cap 0x29#8 1 0#8 0#8) dat).dev 8).primary ≠ 0x28#8 ∧
    ((one 8 (cap 0x28#8 1 0#8 0#8) dat).dev 8).addrCount ≠ 2 ∧
    ((one 8 (cap 0x28#8 2 0xF1#8 0#8) dat).dev 8).secondary ≠ 0xF2#8 ∧
    (((one 8 (cap 0x3F#8 2 0xF2#8 0#8) dat).dev 8).primary.toNat ≠ 0x20 + (8 : UnitNo).val ∧
      ((one 8 (cap 0x3F#8 2 0xF2#8 0#8) dat).dev 8).primary.toNat ≠ 0x40 + (8 : UnitNo).val) := by
  unfold Stepped; decide

theorem witness_UnaddressedUnitStaysPassive :
    (Stepped (one 8 idle rel) 8 ∧ (∃ t, exec (.exec 3) (one 8 idle rel) = .next t) ∧
      idle.atn = (one 8 idle rel).m.atnLow ∧ idle.regime = .idle) ∧
    (Stepped (one 8 (li .done1 1) rel) 8 ∧ (∃ t, exec (.exec 3) (one 8 (li .done1 1) rel) = .next t) ∧
      (li .done1 1).atn = (one 8 (li .done1 1) rel).m.atnLow ∧ (li .done1 1).phase = .done1 ∧
      (li .done1 1).regime ≠ .talking) :=
  ⟨⟨by unfold Stepped; decide, ⟨_, rfl⟩, rfl, rfl⟩,
    by unfold Stepped; decide, ⟨_, rfl⟩, rfl, rfl, by decide⟩

theorem witness_AtnFallSavesAndAssertsPresence :
    Stepped (one 8 (ta .bitw 290) dat) 8 ∧ ClockOk (one 8 (ta .bitw 290) dat) 300 ∧
    (ta .bitw 290).atn = false ∧ lll.atn = false := by
  unfold Stepped ClockOk; decide

theorem witness_AtnRiseOutcome_addressed :
    (Rise (cap 0x28#8 2 0xF2#8 0#8) ∧ (0x28#8 : Byte).toNat = 0x20 + (8 : UnitNo).val) ∧
    (Rise (cap 0x28#8 1 0#8 0#8) ∧ (cap 0x28#8 1 0#8 0#8).addrCount = 1) ∧
    (Rise (cap 0x48#8 2 0x60#8 0#8) ∧ (0x48#8 : Byte).toNat = 0x40 + (8 : UnitNo).val) ∧
    Rise (cap 0x48#8 1 0#8 0#8) := by
  unfold Rise Stepped ClockOk; decide

theorem witness_AtnRiseOutcome_broadcast :
    (Rise (cap 0x3F#8 1 0#8 0xF2#8 true) ∧ (cap 0x3F#8 1 0#8 0xF2#8 true).listening = true) ∧
    (Rise (cap 0x5F#8 1 0#8 0x63#8 false true) ∧ (cap 0x5F#8 1 0#8 0x63#8 false true).talking = true ∧
      (cap 0x5F#8 1 0#8 0x63#8 false true).listening = false) ∧
    (Rise (cap 0#8 0 0#8 0#8) ∧ (cap 0#8 0 0#8 0#8).addrCount = 0) ∧
    (Rise (cap 0x29#8 1 0#8 0x62#8 true) ∧ pClass 0x29#8 8 = .other) ∧
    (Rise (cap 0x3F#8 1 0#8 0#8) ∧ (cap 0x3F#8 1 0#8 0#8).listening = false) ∧
    (Rise (cap 0x5F#8 1 0#8 0x62#8 true) ∧ (cap 0x5F#8 1 0#8 0x62#8 true).talking = false) := by
  unfold Rise Stepped ClockOk; decide

theorem witness_ListenTalkOtherRows :
    (Captured (cap 0x28#8 2 0xF2#8 0#8) ∧ (0x28#8 : Byte).toNat = 0x20 + (8#5 : BitVec 5).toNat ∧
      (8#5 : BitVec 5).toNat = (8 : UnitNo).val) ∧
    Captured (cap 0x28#8 1 0#8 0#8) ∧
    (Captured (cap 0x3E#8 1 0#8 0#8) ∧ (0x3E#8 : Byte).toNat = 0x20 + (30#5 : BitVec 5).toNat ∧
      (30#5 : BitVec 5).toNat ≠ (8 : UnitNo).val ∧ 30#5 ≠ 31#5) ∧
    (Captured (cap 0x48#8 2 0x60#8 0#8) ∧ (0x48#8 : Byte).toNat = 0x40 + (8#5 : BitVec 5).toNat) ∧
    Captured (cap 0x48#8 1 0#8 0#8) ∧
    (Captured (cap 0x40#8 1 0#8 0#8) ∧ (0x40#8 : Byte).toNat = 0x40 + (0#5 : BitVec 5).toNat ∧
      (0#5 : BitVec 5).toNat ≠ (8 : UnitNo).val) ∧
    (Captured (cap 0x1F#8 1 0#8 0#8) ∧ (0x1F#8 : Byte).toNat < 0x20) ∧
    (Captured (cap 0x60#8 1 0#8 0#8) ∧ 0x60 ≤ (0x60#8 : Byte).toNat) := by
  unfold Captured Stepped; decide

theorem witness_UnlistenUntalkRows :
    (Captured (cap 0x3F#8 1 0#8 0xF2#8 true) ∧ (cap 0x3F#8 1 0#8 0xF2#8 true).listening = true) ∧
    (Captured (cap 0x3F#8 1 0#8 0x60#8 false true) ∧ (cap 0x3F#8 1 0#8 0x60#8 false true).listening = false) ∧
    (Captured (cap 0x5F#8 1 0#8 0x63#8 false true) ∧ (cap 0x5F#8 1 0#8 0x63#8 false true).talking = true) ∧
    (Captured (cap 0x5F#8 1 0#8 0x62#8 true) ∧ (cap 0x5F#8 1 0#8 0x62#8 true).talking = false) := by
  unfold Captured Stepped; decide

theorem witness_SecondaryRowsMakeTheirCall :
    (Captured (cap 0x28#8 2 0xF0#8 0#8) ∧ (cap 0x28#8 2 0xF0#8 0#8).addrCount = 2 ∧
      (0x28#8 : Byte).toNat = 0x20 + (8 : UnitNo).val ∧ (0xF0#8 : Byte).toNat = 0xF0 + (0 : Channel).val) ∧
    (Captured (cap 0x48#8 2 0xEF#8 0#8) ∧ (0x48#8 : Byte).toNat = 0x40 + (8 : UnitNo).val ∧
      (0xEF#8 : Byte).toNat = 0xE0 + (15 : Channel).val) ∧
    (Captured (cap 0x28#8 2 0xDF#8 0#8) ∧ (0xD#4 : BitVec 4).toNat < 0xE ∧
      (0xDF#8 : Byte).toNat = 16 * (0xD#4 : BitVec 4).toNat + (15 : Channel).val) := by
  unfold Captured Stepped; decide

theorem witness_DispatcherCallsAreRecordedAndLatched :
    inRange fresh.cfg 4 = true ∧ inRange fresh.cfg 15 = true ∧ inRange fresh.cfg 16 = false := by decide

/-- `s` after the instruction `i`, or `s` itself if `i` has no next state. -/
def run (i : Instr) (s : State) : State := (nextOf (exec i s)).getD s

/-- Unit 8 with three answers to come: those of a close, of a read and of an open. -/
def closer : State := { reader with answers := [⟨0#8, 0x42#8⟩, ⟨0x58#8, 0#8⟩, ⟨0#8, 0#8⟩] }

/-- The rows, with a read of another channel in between. -/
theorem witness_CloseStatusIsVisibleToTheNextOpen_rows :
    inRange closer.cfg 8 = true ∧ (∃ t, exec (.dispClose 8 5) closer = .next t) ∧
    (run (.exec 83) (run (.dispClose 8 5) closer)).calls.map (·.call) = [.read 8 0, .closeCall 8 5] ∧
    (run (.exec 83) (run (.dispClose 8 5) closer)).cfg = (run (.dispClose 8 5) closer).cfg ∧
    (run (.exec 83) (run (.dispClose 8 5) closer)).statusOf 8 5 = (run (.dispClose 8 5) closer).statusOf 8 5 :=
  ⟨by decide, ⟨_, rfl⟩, by decide, by decide, by decide⟩

/-- Under ATN LISTEN 8, CLOSE 5 has been captured; ATN has risen. -/
def closing : State :=
  { one 8 (cap 0x28#8 2 0xE5#8 0#8) dat with answers := [⟨0#8, 0x42#8⟩, ⟨0#8, 0#8⟩] }

/-- The same unit after the close, when LISTEN 8, OPEN 5 has been captured. -/
def opening : State :=
  (run (.exec 500) closing).updDev 8 fun d => { cap 0x28#8 2 0xF5#8 0#8 with status := d.status }

theorem witness_CloseStatusIsVisibleToTheNextOpen_exec :
    (∃ t, exec (.exec 500) closing = .next t) ∧ (∃ r, exec (.exec 600) opening = .next r) ∧
    (run (.exec 500) closing).calls.map (·.call) = [.closeCall 8 5] ∧
    opening.statusOf 8 5 = (run (.exec 500) closing).statusOf 8 5 ∧ opening.statusOf 8 5 = 0x42#8 ∧
    (run (.exec 600) opening).calls.map (·.call) = [.openCall 8 5, .closeCall 8 5] :=
  ⟨⟨_, rfl⟩, ⟨_, rfl⟩, by decide, by decide, by decide, by decide⟩

theorem witness_RxPre0Settles :
    (Rx (ua .pre0 10) lll 13 true ∧ cfgT.tRxSettle ≤ el (ua .pre0 10) 13) ∧
    (Rx (li .pre0 10) hll 12 false ∧ el (li .pre0 10) 12 < cfgT.tRxSettle) := by
  unfold Rx Receiving Stepped ClockOk; decide

theorem witness_RxPre1AnswersReadyForData :
    (Rx (ua .pre1 13) lhl 20 true ∧ lhl.clk = true) ∧ (Rx (li .pre1 13) hll 20 false ∧ hll.clk = false) := by
  unfold Rx Receiving Stepped ClockOk; decide

theorem witness_RxReadyStartsFrameOrEoi :
    (Rx (li .ready 20) hlh 28 false ∧ hlh.clk = false) ∧
    (Rx (li .ready 20) hhh 28 false ∧ hhh.clk = true ∧ cfgT.tEoi ≤ el (li .ready 20) 28) ∧
    (Rx (li .ready 20) hhh 27 false ∧ el (li .ready 20) 27 < cfgT.tEoi) ∧
    (Rx (ua .ready 20) lhh 1000 true ∧ lhh.clk = true) := by
  unfold Rx Receiving Stepped ClockOk; decide

theorem witness_RxEoiPulseThenFrame :
    (Rx (li .eoi 28) hhl 31 false ∧ cfgT.tEoiAck ≤ el (li .eoi 28) 31) ∧
    (Rx (li .eoi 28) hhl 30 false ∧ el (li .eoi 28) 30 < cfgT.tEoiAck) ∧
    Rx (li .eoiw 31) hlh 91 false ∧ Rx (li .eoiw 31) hhh 90 false := by
  unfold Rx Receiving Stepped ClockOk; decide

theorem witness_RxBitSamplesOneBit :
    Rx { ua .bit 90 with cursor := 0 } lhh 95 true ∧ Rx { li .bit 90 with cursor := 7 } hll 95 false := by
  unfold Rx Receiving Stepped ClockOk; decide

theorem witness_RxBitwAdvances :
    (Rx { ua .bitw 90 with cursor := 0 } llh 95 true ∧ (0 : Fin 8).val = (0 : Fin 7).val) ∧
    (Rx { li .bitw 90 with cursor := 6 } hhh 95 false ∧ (6 : Fin 8).val = (6 : Fin 7).val) := by
  unfold Rx Receiving Stepped ClockOk; decide

theorem witness_RxByteCompleteUnderAtn :
    (Rx { ua .bitw 39 with cursor := 7, byte := 0x28#8 } llh 41 true ∧
      (0x28#8 : Byte).toNat = 0x20 + (8 : UnitNo).val) ∧
    (Rx { ua .bitw 39 with cursor := 7, byte := 0x29#8 } llh 41 true ∧
      ¬ ((0x29#8 : Byte).toNat = 0x20 + (8 : UnitNo).val ∨ (0x29#8 : Byte).toNat = 0x40 + (8 : UnitNo).val ∨
        0x29#8 = 0x3F#8 ∨ 0x29#8 = 0x5F#8)) ∧
    Rx { ua .bitw 39 with cursor := 7 } lhh 41 true := by
  unfold Rx Receiving Stepped ClockOk; decide

theorem witness_RxByteCompleteWhileListening :
    Rx { li .bitw 115 with cursor := 7 } hlh 117 false ∧ Rx { li .bitw 115 with cursor := 7 } hhh 116 false ∧
    ((one 8 (li .bitw 115) rel).answerTo (.write 8 2 0#8)).status = 0x00#8 ∧
    ((one 8 (li .bitw 115) rel ⟨0#8, 0x01#8⟩).answerTo (.write 8 2 0#8)).status ≠ 0x00#8 := by
  unfold Rx Receiving Stepped ClockOk; decide

theorem witness_RxTerminalRowsDoNothing :
    Rx (ua .done1 41) lhh 50 true ∧ Rx (li .done0 41) hhh 50 false ∧ Rx (li .retry0 41) hhh 50 false ∧
    Rx (li .retry1 41) hhh 50 false := by
  unfold Rx Receiving Stepped ClockOk; decide

theorem witness_TxPre0WaitsForTurnAround :
    Tx (ta .pre0 79) hhl 80 ∧ Tx (ta .pre0 79) hhh 80 ∧ Tx (ta .pre0 79) hll 79 := by
  unfold Tx Transmitting Stepped ClockOk; decide

theorem witness_TxPre1ReadyToSend :
    (Tx (ta .pre1 80) hll 82 ∧ cfgT.tTxSettle ≤ el (ta .pre1 80) 82) ∧
    (Tx (ta .pre1 80) hll 81 ∧ el (ta .pre1 80) 81 < cfgT.tTxSettle) := by
  unfold Tx Transmitting Stepped ClockOk; decide

theorem witness_TxReadyFetchesOneByte :
    Tx (ta .ready 82) hhh 83 ∧ Tx (ta .ready 82) hhl 83 ∧
    ((one 8 (ta .ready 82) rel ⟨0x58#8, 0x00#8⟩).answerTo (.read 8 0)).status = 0x00#8 ∧
    ((one 8 (ta .ready 82) rel ⟨0x5A#8, 0x40#8⟩).answerTo (.read 8 0)).status = cfgT.statusEoi ∧
    cfgT.statusEoi ≠ 0x00#8 ∧
    ((one 8 (ta .ready 82) rel ⟨0x0D#8, 0x02#8⟩).answerTo (.read 8 0)).status ≠ cfgT.statusEoi := by
  unfold Tx Transmitting Stepped ClockOk; decide

theorem witness_TxEoiHold :
    Tx (ta .eoi 159) hhl 167 ∧ Tx (ta .eoi 159) hhh 166 ∧ Tx (ta .eoiw 167) hhh 170 ∧
    Tx (ta .eoiw 167) hhl 169 := by
  unfold Tx Transmitting Stepped ClockOk; decide

theorem witness_TxBitSetsUpOneBit :
    (Tx { ta .bit 83 with cursor := 0 } hhh 85 ∧ cfgT.tBit ≤ el (ta .bit 83) 85) ∧
    (Tx { ta .bit 83 with cursor := 7 } hhh 84 ∧ el (ta .bit 83) 84 < cfgT.tBit) := by
  unfold Tx Transmitting Stepped ClockOk; decide

theorem witness_TxBitwRaisesClock :
    (Tx { ta .bitw 85 with cursor := 6 } hlh 87 ∧ cfgT.tBit ≤ el (ta .bitw 85) 87 ∧
      (7 : Fin 8).val = (6 : Fin 8).val + 1) ∧
    Tx { ta .bitw 85 with cursor := 7 } hlh 87 ∧
    (Tx { ta .bitw 85 with cursor := 0 } hlh 86 ∧ el (ta .bitw 85) 86 < cfgT.tBit) := by
  unfold Tx Transmitting Stepped ClockOk; decide

theorem witness_TxDone0EndsTheFrame :
    (Tx (ta .done0 115) hhl 117 ∧ cfgT.tBit ≤ el (ta .done0 115) 117) ∧
    (Tx (ta .done0 115) hhl 116 ∧ el (ta .done0 115) 116 < cfgT.tBit) := by
  unfold Tx Transmitting Stepped ClockOk; decide

theorem witness_TxDone1AcknowledgeOrTimeout :
    (Tx { ta .done1 117 with status := st1 0 0x40#8 } hll 118 ∧
      (one 8 { ta .done1 117 with status := st1 0 0x40#8 } rel).statusOf 8 0 = cfgT.statusEoi) ∧
    (Tx (ta .done1 117) hll 127 ∧ (one 8 (ta .done1 117) rel).statusOf 8 0 ≠ cfgT.statusEoi) ∧
    (Tx (ta .done1 117) hlh 127 ∧ cfgT.tAck ≤ el (ta .done1 117) 127) ∧
    (Tx (ta .done1 117) hlh 126 ∧ el (ta .done1 117) 126 < cfgT.tAck) := by
  unfold Tx Transmitting Stepped ClockOk; decide

theorem witness_TxRetryPulseAndResend :
    (Tx (ta .retry0 127) hhh 129 ∧ cfgT.tRetry ≤ el (ta .retry0 127) 129) ∧
    (Tx (ta .retry0 127) hhh 128 ∧ el (ta .retry0 127) 128 < cfgT.tRetry) ∧
    (Tx (ta .retry1 129) hlh 131 ∧ cfgT.tRetry ≤ el (ta .retry1 129) 131) ∧
    (Tx (ta .retry1 129) hlh 130 ∧ el (ta .retry1 129) 130 < cfgT.tRetry) := by
  unfold Tx Transmitting Stepped ClockOk; decide

theorem witness_TalkerKeepsItsByteOutsideReady : Tx (ta .retry1 129) hlh 131 ∧ (ta .retry1 129).phase ≠ .ready := by
  unfold Tx Transmitting Stepped ClockOk; decide

end Sys2Proof.Tests
end

-- ==== Proofs of the scope family (00_scope.md): the elapsed time ====
section

namespace Sys2Proof.Machine

/-! ### What `elapsed` answers, for each kind of clock -/

/-- With the unbounded clock no time is lost between the stamp and the present (R12 (a)). -/
theorem stamp_add_elapsed_none {now stamp : Clock} (h : stamp ≤ now) :
    stamp + elapsed none now stamp = now :=
  Nat.add_sub_of_le h

/-- With a clock of `w` bits the elapsed time, seen as an integer, is the reduced difference: the remainder is
never negative, so `toNat` loses nothing (R220). -/
theorem elapsed_some_cast (w : Nat) (now stamp : Clock) :
    (elapsed (some w) now stamp : Int) = ((now : Int) - stamp) % 2 ^ w :=
  Int.toNat_of_nonneg (Int.emod_nonneg _ (by positivity))

theorem elapsed_some_lt (w : Nat) (now stamp : Clock) : elapsed (some w) now stamp < 2 ^ w := by
  have hlt : (elapsed (some w) now stamp : Int) < 2 ^ w := by
    rw [elapsed_some_cast]
    exact Int.emod_lt_of_pos _ (by positivity)
  exact_mod_cast hlt

/-- The elapsed time leads from the stamp to the present modulo `2^w`, also across a wrap of the clock. -/
theorem stamp_add_elapsed_some_modEq (w : Nat) (now stamp : Clock) :
    stamp + elapsed (some w) now stamp ≡ now [MOD 2 ^ w] := by
  have hint : (stamp : Int) + elapsed (some w) now stamp ≡ now [ZMOD 2 ^ w] :=
    calc (stamp : Int) + elapsed (some w) now stamp
        = stamp + ((now : Int) - stamp) % 2 ^ w := by rw [elapsed_some_cast]
      _ ≡ stamp + ((now : Int) - stamp) [ZMOD 2 ^ w] := (Int.mod_modEq _ _).add_left _
      _ = now := add_sub_cancel _ _
  exact Int.natCast_modEq_iff.mp (by exact_mod_cast hint)

/-- Settles O7: the unbounded clock by the natural difference, the clock of `w` bits by its bound and its
congruence modulo `2^w`. -/
theorem elapsedIsTheClockDifference : Obligations.ElapsedIsTheClockDifference :=
  ⟨fun _ _ h => stamp_add_elapsed_none h,
   fun w now stamp => ⟨elapsed_some_lt w now stamp, stamp_add_elapsed_some_modEq w now stamp⟩⟩

end Sys2Proof.Machine
end

-- ==== Proofs of the state family (10_state.md): what a unit's step is made of ====
section

set_option Elab.async false

namespace Sys2Proof.Machine

/-! ### A unit's step is a run of the named operations on that unit -/

/-- An assignment to a DeviceState that is neither an `enable` nor a latch nor a phase change: those fields change only
by operations of their own (R21, R30, R32). -/
def KeepsFrame (f : DeviceState → DeviceState) : Prop :=
  ∀ d, (f d).enabled = d.enabled ∧ (f d).status = d.status ∧ (f d).stamp = d.stamp

/-- `t` comes from `s` by operations on unit `u` alone: assignments that keep the frame, writes of the unit's slot,
phase changes at the clock `now`, and Dispatcher calls in the unit's name. -/
inductive UnitRun (u : UnitNo) (now : Clock) (s : State) : State → Prop
  | refl : UnitRun u now s s
  | updDev {t : State} {f : DeviceState → DeviceState} (h : UnitRun u now s t)
      (hf : KeepsFrame f := by exact fun _ => ⟨rfl, rfl, rfl⟩) :
      UnitRun u now s (t.updDev u f)
  | fabricWrite {t : State} {cl dl : Bool} (h : UnitRun u now s t) : UnitRun u now s (t.fabricWrite u cl dl)
  | setPhase {t : State} {p : Phase} (h : UnitRun u now s t) : UnitRun u now s (t.setPhase u p now)
  | dispatch {t : State} {call : DispCall} (h : UnitRun u now s t) (hu : call.unit = u) :
      UnitRun u now s (t.dispatch call)

section runs

variable {u : UnitNo} {now : Clock} {s t : State}

/-! ### What every such run keeps -/

theorem UnitRun.onlyUnit (h : UnitRun u now s t) : OnlyUnit u s t := by
  induction h with
  | refl => exact .refl u s
  | updDev _ _ ih => exact ih.trans (.updDev u _ _)
  | fabricWrite _ ih => exact ih.trans (.fabricWrite u _ _ _)
  | setPhase _ ih => exact ih.trans (.setPhase u _ now _)
  | dispatch _ hu ih => exact ih.trans (hu ▸ .dispatch _ _)

theorem UnitRun.enabled_eq (h : UnitRun u now s t) : (t.dev u).enabled = (s.dev u).enabled := by
  induction h with
  | refl => rfl
  | updDev _ hf ih => simpa using (hf _).1.trans ih
  | fabricWrite _ ih => simpa using ih
  | setPhase _ ih => simpa using ih
  | dispatch _ hu ih => simpa [State.dev_dispatch, hu] using ih

theorem UnitRun.stamp_eq (h : UnitRun u now s t) :
    (t.dev u).stamp = (s.dev u).stamp ∨ (t.dev u).stamp = now := by
  induction h with
  | refl => exact .inl rfl
  | updDev _ hf ih => simpa [(hf _).2.2] using ih
  | fabricWrite _ ih => simpa using ih
  | setPhase _ ih => exact .inr (by simp)
  | dispatch _ hu ih => simpa [State.dev_dispatch, hu] using ih

/-! ### The commands and the ATN event are such runs -/

theorem UnitRun.cmdNone (h : UnitRun u now s t) : UnitRun u now s (cmdNone u t) := by
  unfold Machine.cmdNone
  split
  · exact h.updDev
  · exact h

theorem UnitRun.dispatchSecondary (h : UnitRun u now s t) : UnitRun u now s (dispatchSecondary u t) := by
  unfold Machine.dispatchSecondary
  split
  · exact h.dispatch (secondaryCall_unit _ _)
  · exact h

theorem UnitRun.cmdUnlisten (h : UnitRun u now s t) : UnitRun u now s (cmdUnlisten u t) := by
  unfold Machine.cmdUnlisten
  dsimp only
  split
  · exact h.updDev.dispatch rfl
  · exact h.cmdNone

theorem UnitRun.cmdUntalk (h : UnitRun u now s t) : UnitRun u now s (cmdUntalk u t) := by
  unfold Machine.cmdUntalk
  dsimp only
  split
  · exact h.updDev.dispatch rfl
  · exact h.cmdNone

theorem UnitRun.primaryCommand (h : UnitRun u now s t) : UnitRun u now s (primaryCommand u t) := by
  unfold Machine.primaryCommand
  split
  · split
    · exact h.updDev.dispatchSecondary
    · exact h.updDev.dispatchSecondary
    · exact h.cmdUnlisten
    · exact h.cmdUntalk
    · exact h.cmdNone
  · exact h.cmdNone

theorem UnitRun.regimeEntry (h : UnitRun u now s t) : UnitRun u now s (regimeEntry u now t) := by
  unfold Machine.regimeEntry
  split
  · exact h.fabricWrite.setPhase
  · exact h.fabricWrite.setPhase

variable (u now s)

theorem atnEntry_run : UnitRun u now s (atnEntry u now s) :=
  UnitRun.refl.updDev.setPhase.fabricWrite

theorem atnReturn_run : UnitRun u now s (atnReturn u now s) :=
  UnitRun.refl.updDev.primaryCommand.regimeEntry

/-! ### The phase rules are such runs -/

/-- The capture of an address byte (R27, 43_byte_receive.md R153), the first assignment of `byteDoneAtn`. -/
def captureByte (d : DeviceState) : DeviceState :=
  if d.addrCount = 0 then { d with primary := d.byte, addrCount := 1 }
  else if d.addrCount = 1 then { d with secondary := d.byte, addrCount := 2 }
  else d

theorem byteDoneAtn_eq : byteDoneAtn u now s =
    if pClass (captureByte (s.dev u)).primary u != .other then
      ((s.updDev u captureByte).fabricWrite u false true).setPhase u .pre1 now
    else (s.updDev u captureByte).setPhase u .done1 now := by
  rw [← State.dev_updDev_self s u captureByte]
  rfl

theorem captureByte_keepsFrame : KeepsFrame captureByte := by
  intro d
  unfold captureByte
  split
  · exact ⟨rfl, rfl, rfl⟩
  · split <;> exact ⟨rfl, rfl, rfl⟩

theorem byteDoneAtn_run : UnitRun u now s (byteDoneAtn u now s) := by
  rw [byteDoneAtn_eq]
  split
  · exact (UnitRun.refl.updDev captureByte_keepsFrame).fabricWrite.setPhase
  · exact (UnitRun.refl.updDev captureByte_keepsFrame).setPhase

theorem byteDoneListen_run : UnitRun u now s (byteDoneListen u now s) := by
  unfold byteDoneListen
  dsimp only
  split
  · exact (UnitRun.refl.dispatch (DispCall.unit_write _ _ _)).fabricWrite.setPhase
  · exact (UnitRun.refl.dispatch (DispCall.unit_write _ _ _)).setPhase

theorem rxReady_run (S : Snapshot) (underAtn : Bool) : UnitRun u now s (rxReady u S now underAtn s) := by
  unfold rxReady
  split
  · exact UnitRun.refl.updDev.setPhase
  · split
    · exact UnitRun.refl.fabricWrite.setPhase
    · exact .refl

theorem rxStep_run (S : Snapshot) (underAtn : Bool) : UnitRun u now s (rxStep u S now underAtn s) := by
  unfold rxStep
  cases (s.dev u).phase <;> dsimp only
  case pre0 => unfold rxPre0; split; exacts [UnitRun.refl.setPhase, .refl]
  case pre1 => unfold rxPre1; split; exacts [UnitRun.refl.fabricWrite.setPhase, .refl]
  case ready => exact rxReady_run u now s S underAtn
  case eoi => unfold rxEoi; split; exacts [UnitRun.refl.fabricWrite.setPhase, .refl]
  case eoiw => unfold rxEoiw; split; exacts [UnitRun.refl.updDev.setPhase, .refl]
  case bit => unfold rxSample; split; exacts [UnitRun.refl.updDev.setPhase, .refl]
  case bitw =>
    split
    · unfold rxAdvance; split; exacts [UnitRun.refl.updDev.setPhase, .refl]
    · split
      · unfold rxCompleteAtn; split; exacts [byteDoneAtn_run u now s, .refl]
      · unfold rxCompleteListen; split; exacts [byteDoneListen_run u now s, .refl]
  all_goals exact .refl

theorem txReady_run (S : Snapshot) : UnitRun u now s (txReady u S now s) := by
  unfold txReady
  split
  · dsimp only
    split
    · exact (UnitRun.refl.dispatch (DispCall.unit_read _ _)).updDev.setPhase
    · exact (UnitRun.refl.dispatch (DispCall.unit_read _ _)).updDev.setPhase
    · exact (UnitRun.refl.dispatch (DispCall.unit_read _ _)).updDev.fabricWrite.setPhase
  · exact .refl

theorem txValid_run (n : Fin 8) : UnitRun u now s (txValid n u now s) := by
  unfold txValid
  split
  · dsimp only
    split
    · exact UnitRun.refl.fabricWrite.updDev.setPhase
    · exact UnitRun.refl.fabricWrite.setPhase
  · exact .refl

theorem txDone1_run (S : Snapshot) : UnitRun u now s (txDone1 u S now s) := by
  unfold txDone1
  split
  · split
    · exact UnitRun.refl.updDev.fabricWrite.setPhase
    · exact UnitRun.refl.setPhase
  · split
    · exact UnitRun.refl.fabricWrite.setPhase
    · exact .refl

theorem txStep_run (S : Snapshot) : UnitRun u now s (txStep u S now s) := by
  unfold txStep
  cases (s.dev u).phase <;> dsimp only
  case pre0 => unfold txPre0; split; exacts [UnitRun.refl.fabricWrite.setPhase, .refl]
  case pre1 => unfold txPre1; split; exacts [UnitRun.refl.fabricWrite.setPhase, .refl]
  case ready => exact txReady_run u now s S
  case eoi => unfold txEoi; split; exacts [UnitRun.refl.setPhase, .refl]
  case eoiw => unfold txEoiw; split; exacts [UnitRun.refl.updDev.setPhase, .refl]
  case bit => unfold txSetup; split; exacts [UnitRun.refl.fabricWrite.setPhase, .refl]
  case bitw => exact txValid_run u now s _
  case done0 => unfold txDone0; split; exacts [UnitRun.refl.fabricWrite.setPhase, .refl]
  case done1 => exact txDone1_run u now s S
  case retry0 => unfold txRetry0; split; exacts [UnitRun.refl.fabricWrite.setPhase, .refl]
  case retry1 =>
    unfold txRetry1; split
    exacts [UnitRun.refl.fabricWrite.updDev.setPhase, .refl]

/-- Whatever the unit sees, its step is such a run: an edge, the active regime's phase rule, or nothing. -/
theorem unitStep_run (S : Snapshot) : UnitRun u now s (unitStep u S now s) := by
  unfold unitStep
  split
  · exact atnEntry_run u now s
  · split
    · exact atnReturn_run u now s
    · split
      · exact rxStep_run u now s S true
      · exact rxStep_run u now s S false
      · exact txStep_run u now s S
      · exact .refl

end runs

end Sys2Proof.Machine
end

-- ==== Proofs of the state family (10_state.md): the status table ====
section

set_option Elab.async false

namespace Sys2Proof.Machine

/-! ### A status entry changes only by a latch (R30, 45_dispatcher.md R198) -/

/-- From `s` to `t` calls were made, and a status entry that changed has the status one of them returned for that unit
and channel. -/
def StatusByLatch (s t : State) : Prop :=
  ∃ new, t.calls = new ++ s.calls ∧
    ∀ u c, t.statusOf u c ≠ s.statusOf u c →
      ∃ k ∈ new, k.call.unit = u ∧ k.call.channel = c ∧ k.answer.status = t.statusOf u c

theorem StatusByLatch.of_eq {s t : State} (hc : t.calls = s.calls)
    (hs : ∀ u, (t.dev u).status = (s.dev u).status) : StatusByLatch s t :=
  ⟨[], hc, fun u c h => absurd (by simp only [State.statusOf, hs u]) h⟩

theorem StatusByLatch.refl (s : State) : StatusByLatch s s := .of_eq rfl fun _ => rfl

/-- The last latch of an entry gives its value, so two such changes compose. -/
theorem StatusByLatch.trans {s t r : State} (h : StatusByLatch s t) (k : StatusByLatch t r) :
    StatusByLatch s r := by
  obtain ⟨new, hcalls, hlatch⟩ := h
  obtain ⟨later, kcalls, klatch⟩ := k
  refine ⟨later ++ new, by rw [kcalls, hcalls, List.append_assoc], fun u c hne => ?_⟩
  by_cases hrt : r.statusOf u c = t.statusOf u c
  · obtain ⟨e, he, hu, hch, hst⟩ := hlatch u c (hrt ▸ hne)
    exact ⟨e, List.mem_append_right _ he, hu, hch, hst.trans hrt.symm⟩
  · obtain ⟨e, he, hu, hch, hst⟩ := klatch u c hrt
    exact ⟨e, List.mem_append_left _ he, hu, hch, hst⟩

theorem StatusByLatch.updDev {u : UnitNo} {f : DeviceState → DeviceState} (s : State)
    (hf : ∀ d, (f d).status = d.status) : StatusByLatch s (s.updDev u f) := by
  refine .of_eq rfl fun v => ?_
  rw [State.dev_updDev]
  split
  · next h => rw [hf, h]
  · rfl

/-- A call changes the entry it names to the status it returned, and no other. -/
theorem StatusByLatch.dispatch (call : DispCall) (s : State) : StatusByLatch s (s.dispatch call) := by
  refine ⟨[⟨call, (s.dev call.unit).status, s.answerTo call⟩], rfl, fun u c hne => ?_⟩
  refine ⟨_, List.mem_singleton_self _, ?_⟩
  by_cases hu : u = call.unit
  · subst hu
    by_cases hc : c = call.channel
    · subst hc
      exact ⟨rfl, rfl, by simp [State.statusOf]⟩
    · have hval : call.channel.val ≠ c.val := fun e => hc (Fin.ext e.symm)
      exact absurd (by simp [State.statusOf, hval]) hne
  · exact absurd (by simp only [State.statusOf, State.dev_dispatch_of_ne s u call hu]) hne

theorem UnitRun.statusByLatch {u : UnitNo} {now : Clock} {s t : State} (h : UnitRun u now s t) :
    StatusByLatch s t := by
  induction h with
  | refl => exact .refl s
  | updDev _ hf ih => exact ih.trans (.updDev _ fun d => (hf d).2.1)
  | fabricWrite _ ih => exact ih.trans (.of_eq rfl fun _ => rfl)
  | setPhase _ ih => exact ih.trans (.updDev _ fun _ => rfl)
  | dispatch _ _ ih => exact ih.trans (.dispatch _ _)

theorem stepUnits_statusByLatch (S : Snapshot) (now : Clock) (us : List UnitNo) (s : State) :
    StatusByLatch s (stepUnits S now us s) := by
  induction us generalizing s with
  | nil => exact .refl s
  | cons u us ih =>
    unfold stepUnits
    split
    · exact (unitStep_run u now s S).statusByLatch.trans (ih _)
    · exact ih s

/-- All an `exec` can answer: before initialization only its clock is recorded, and otherwise the units of the block
have stepped on the one snapshot, at a clock that is not behind that of the previous `exec`. -/
theorem execExec_cases {now : Clock} {s t : State} (h : execExec now s = .next t) :
    (s.initialized = false ∧ t = { s with lastNow := some now }) ∨
      (s.initialized = true ∧ s.clockBack now = none ∧
        t = { stepUnits s.fabricRead now (unitsOf s.cfg) s with lastNow := some now }) := by
  unfold execExec at h
  split at h
  · next hi =>
    split at h
    · cases h
    · next hc => cases h; exact .inr ⟨hi, hc, rfl⟩
  · next hi => cases h; exact .inl ⟨by simpa using hi, rfl⟩

/-- Settles O27: every unit step of the `exec` latches its own calls, and such changes compose along the loop. -/
theorem statusChangesOnlyByLatch : Obligations.StatusChangesOnlyByLatch := by
  intro s t now h
  obtain ⟨-, rfl⟩ | ⟨-, -, rfl⟩ := execExec_cases h
  · exact StatusByLatch.of_eq rfl fun _ => rfl
  · exact (stepUnits_statusByLatch s.fabricRead now (unitsOf s.cfg) s).trans (.of_eq rfl fun _ => rfl)

end Sys2Proof.Machine
end

-- ==== Proofs of the state family (10_state.md): the invariant of one unit ====
section

set_option Elab.async false

namespace Sys2Proof.Machine

/-! ### The regimes and the drive each of them holds (R23, R37) -/

theorem regime_eq_underAtn {d : DeviceState} : d.regime = .underAtn ↔ d.atn = true := by
  unfold DeviceState.regime
  split_ifs <;> simp_all

theorem regime_eq_listening {d : DeviceState} :
    d.regime = .listening ↔ d.atn = false ∧ d.listening = true := by
  unfold DeviceState.regime
  split_ifs <;> simp_all

theorem regime_eq_talking {d : DeviceState} :
    d.regime = .talking ↔ d.atn = false ∧ d.listening = false ∧ d.talking = true := by
  unfold DeviceState.regime
  split_ifs <;> simp_all

theorem regime_eq_idle {d : DeviceState} :
    d.regime = .idle ↔ d.atn = false ∧ d.listening = false ∧ d.talking = false := by
  unfold DeviceState.regime
  split_ifs <;> simp_all

/-- The phases of a receiver; under ATN there is no EOI (43_byte_receive.md R148). -/
def receivePhase (underAtn : Bool) : Phase → Bool
  | .pre0 | .pre1 | .ready | .bit | .bitw | .done1 => true
  | .eoi | .eoiw => !underAtn
  | .done0 | .retry0 | .retry1 => false

/-- The phases in which a receiver holds DATA low. -/
def receiverHoldsData : Phase → Bool
  | .pre0 | .pre1 | .eoi => true
  | _ => false

/-- The phases in which a talker holds CLK low. -/
def talkerHoldsClk : Phase → Bool
  | .pre1 | .bitw | .done1 | .retry1 => true
  | _ => false

/-- The phases in which a talker may hold DATA low: while a bit stands on the line, and until the next one is set up. -/
def talkerMayHoldData (p : Phase) (n : Fin 8) : Bool :=
  match p with
  | .bitw | .done0 => true
  | .bit => n != 0
  | _ => false

/-- A receiver's slot is fixed by its phase. -/
theorem driveOk_receiver_iff {d : DeviceState} {w : Slot} (hr : d.atn = true ∨ d.listening = true) :
    DriveOk d w ↔ w = ⟨false, receiverHoldsData d.phase⟩ ∧ receivePhase d.atn d.phase = true := by
  obtain ⟨cl, dl⟩ := w
  cases ha : d.atn
  · have hl : d.regime = .listening := regime_eq_listening.mpr ⟨ha, by simpa [ha] using hr⟩
    cases hp : d.phase <;> simp [DriveOk, hl, hp, receiverHoldsData, receivePhase]
  · have hu : d.regime = .underAtn := regime_eq_underAtn.mpr ha
    cases hp : d.phase <;> simp [DriveOk, hu, hp, receiverHoldsData, receivePhase]

theorem driveOk_talker_iff {d : DeviceState} {w : Slot} (hr : d.regime = .talking) :
    DriveOk d w ↔ w.clkLow = talkerHoldsClk d.phase ∧
      (w.dataLow = true → talkerMayHoldData d.phase d.cursor = true) := by
  cases hp : d.phase <;> simp [DriveOk, hr, hp, talkerHoldsClk, talkerMayHoldData]

theorem driveOk_idle_iff {d : DeviceState} {w : Slot} (hr : d.regime = .idle) :
    DriveOk d w ↔ w = ⟨false, false⟩ := by
  simp [DriveOk, hr]

/-! ### The invariant of a DeviceState and its slot -/

/-- What `UnitOk` says of a DeviceState and its slot by themselves, without the block around them. -/
structure DeviceOk (d : DeviceState) (w : Slot) : Prop where
  idle_of_disabled : d.enabled = false → d.atn = false ∧ d.listening = false ∧ d.talking = false
  exclusive : ¬ (d.listening = true ∧ d.talking = true)
  primary_zero : d.atn = true → d.addrCount = 0 → d.primary = 0#8
  secondary_zero : d.atn = true → d.addrCount.val ≤ 1 → d.secondary = 0#8
  drive : DriveOk d w

/-- What `UnitOk` says of unit `u`, with the stamp measured against the clock `now`. -/
structure UnitOkAt (now : Clock) (s : State) (u : UnitNo) : Prop where
  device : DeviceOk (s.dev u) (s.slot u)
  stepped : (s.dev u).enabled = true → inRange s.cfg u = true ∧ s.initialized = true
  stamp_le : (s.dev u).enabled = true → s.cfg.clockW = none → (s.dev u).stamp ≤ now

theorem unitOk_iff {s : State} {u : UnitNo} : UnitOk s u ↔ UnitOkAt (s.lastNow.getD 0) s u := by
  constructor
  · rintro ⟨hdis, hstep, hex, hpri, hsec, hdrive, hstamp⟩
    exact ⟨⟨hdis, hex, hpri, hsec, hdrive⟩, hstep, hstamp⟩
  · rintro ⟨⟨hdis, hex, hpri, hsec, hdrive⟩, hstep, hstamp⟩
    exact ⟨hdis, hstep, hex, hpri, hsec, hdrive, hstamp⟩

section device

variable {d : DeviceState} {w : Slot}

/-- A device with no regime flag may hold anything in its other fields, and drives nothing. -/
theorem deviceOk_idle (ha : d.atn = false) (hl : d.listening = false) (ht : d.talking = false) :
    DeviceOk d ⟨false, false⟩ where
  idle_of_disabled _ := ⟨ha, hl, ht⟩
  exclusive := by simp [hl]
  primary_zero := by simp [ha]
  secondary_zero := by simp [ha]
  drive := (driveOk_idle_iff (regime_eq_idle.mpr ⟨ha, hl, ht⟩)).mpr rfl

theorem DeviceOk.slot_of_disabled (h : DeviceOk d w) (he : d.enabled = false) : w = ⟨false, false⟩ :=
  (driveOk_idle_iff (regime_eq_idle.mpr (h.idle_of_disabled he))).mp h.drive

theorem DeviceOk.slot_of_receiver (h : DeviceOk d w) (hr : d.atn = true ∨ d.listening = true) :
    w = ⟨false, receiverHoldsData d.phase⟩ :=
  ((driveOk_receiver_iff hr).mp h.drive).1

theorem DeviceOk.phase_of_receiver (h : DeviceOk d w) (hr : d.atn = true ∨ d.listening = true) :
    receivePhase d.atn d.phase = true :=
  ((driveOk_receiver_iff hr).mp h.drive).2

theorem DeviceOk.clk_of_talker (h : DeviceOk d w) (hr : d.regime = .talking) :
    w.clkLow = talkerHoldsClk d.phase :=
  ((driveOk_talker_iff hr).mp h.drive).1

theorem DeviceOk.data_of_talker (h : DeviceOk d w) (hr : d.regime = .talking) :
    w.dataLow = true → talkerMayHoldData d.phase d.cursor = true :=
  ((driveOk_talker_iff hr).mp h.drive).2

/-- A receiver may go to any phase of its regime if it drives what that phase asks for. -/
theorem DeviceOk.receiver_moves {p : Phase} {n : Fin 8} {b : Byte} {st : Vector Byte 16} {now : Clock}
    (h : DeviceOk d w) (hr : d.atn = true ∨ d.listening = true) (hp : receivePhase d.atn p = true) :
    DeviceOk { d with phase := p, cursor := n, byte := b, status := st, stamp := now }
      ⟨false, receiverHoldsData p⟩ where
  idle_of_disabled := h.idle_of_disabled
  exclusive := h.exclusive
  primary_zero := h.primary_zero
  secondary_zero := h.secondary_zero
  drive := (driveOk_receiver_iff (by exact hr)).mpr ⟨rfl, hp⟩

/-- A talker may go to any phase if it drives what that phase asks for. -/
theorem DeviceOk.talker_moves {p : Phase} {n : Fin 8} {b : Byte} {st : Vector Byte 16} {now : Clock} {w' : Slot}
    (h : DeviceOk d w) (hr : d.regime = .talking) (hc : w'.clkLow = talkerHoldsClk p)
    (hd : w'.dataLow = true → talkerMayHoldData p n = true) :
    DeviceOk { d with phase := p, cursor := n, byte := b, status := st, stamp := now } w' where
  idle_of_disabled := h.idle_of_disabled
  exclusive := h.exclusive
  primary_zero := h.primary_zero
  secondary_zero := h.secondary_zero
  drive := (driveOk_talker_iff (by exact hr)).mpr ⟨hc, hd⟩

@[simp] theorem captureByte_atn (d : DeviceState) : (captureByte d).atn = d.atn := by
  unfold captureByte
  split_ifs <;> rfl

/-- Capturing an address byte under ATN leaves zero only what is not captured yet. -/
theorem DeviceOk.captureByte (h : DeviceOk d w) (ha : d.atn = true) : DeviceOk (captureByte d) w := by
  unfold Machine.captureByte
  split_ifs with h0 h1
  · exact ⟨h.idle_of_disabled, h.exclusive, fun _ h => absurd h (by simp),
      fun _ _ => h.secondary_zero ha (by simp [h0]), h.drive⟩
  · exact ⟨h.idle_of_disabled, h.exclusive, fun _ h => absurd h (by simp),
      fun _ h => absurd h (by simp), h.drive⟩
  · exact h

/-- At the entry of a regime (42_atn_arbitration.md R138) a listener holds DATA low and everyone else drives nothing. -/
theorem deviceOk_regimeEntry {now : Clock} (he : d.enabled = true) (ha : d.atn = false)
    (hx : ¬ (d.listening = true ∧ d.talking = true)) :
    DeviceOk { d with phase := .pre0, stamp := now } ⟨false, d.listening⟩ where
  idle_of_disabled h := absurd (h.symm.trans he) (by simp)
  exclusive := hx
  primary_zero h := absurd (ha.symm.trans h) (by simp)
  secondary_zero h := absurd (ha.symm.trans h) (by simp)
  drive := by
    rcases Bool.eq_false_or_eq_true d.listening with hl | hl
    · exact (driveOk_receiver_iff (by exact .inr hl)).mpr ⟨by rw [hl]; rfl, rfl⟩
    · rcases Bool.eq_false_or_eq_true d.talking with ht | ht
      · exact (driveOk_talker_iff (by exact regime_eq_talking.mpr ⟨ha, hl, ht⟩)).mpr
          ⟨rfl, fun hd => absurd (hl.symm.trans hd) (by simp)⟩
      · exact (driveOk_idle_iff (by exact regime_eq_idle.mpr ⟨ha, hl, ht⟩)).mpr (by rw [hl])

end device

section unit

variable {u : UnitNo} {now : Clock} {s : State}

/-! ### The ATN event keeps it -/

theorem atnEntry_deviceOk (h : DeviceOk (s.dev u) (s.slot u)) (he : (s.dev u).enabled = true) :
    DeviceOk ((atnEntry u now s).dev u) ((atnEntry u now s).slot u) := by
  obtain ⟨⟨-, hdev, hslot⟩, -⟩ := atnEntry_becomes u now s
  rw [hdev, hslot]
  exact ⟨fun hd => absurd (he.symm.trans hd) (by simp), h.exclusive, fun _ _ => rfl, fun _ _ => rfl,
    (driveOk_receiver_iff (.inl rfl)).mpr ⟨rfl, rfl⟩⟩

/-- The regime flags of `d'` are those a command may leave where they were `d`'s: the ATN flag as it was, and
listening and talking never both (R36 (d)). -/
def CommandFlags (d d' : DeviceState) : Prop :=
  d'.atn = d.atn ∧ (¬ (d.listening = true ∧ d.talking = true) → ¬ (d'.listening = true ∧ d'.talking = true))

theorem dispatch_flags (call : DispCall) (v : UnitNo) (s : State) :
    ((s.dispatch call).dev v).atn = (s.dev v).atn ∧
      ((s.dispatch call).dev v).listening = (s.dev v).listening ∧
      ((s.dispatch call).dev v).talking = (s.dev v).talking := by
  rw [State.dev_dispatch]
  split
  · next h => simp [h]
  · simp

theorem dispatchSecondary_flags (u : UnitNo) (s : State) :
    ((dispatchSecondary u s).dev u).atn = (s.dev u).atn ∧
      ((dispatchSecondary u s).dev u).listening = (s.dev u).listening ∧
      ((dispatchSecondary u s).dev u).talking = (s.dev u).talking := by
  unfold dispatchSecondary
  split
  · exact dispatch_flags _ u s
  · simp

theorem cmdNone_flags (u : UnitNo) (s : State) : CommandFlags (s.dev u) ((cmdNone u s).dev u) := by
  obtain ⟨⟨-, hdev, -⟩, -⟩ := cmdNone_becomes u s
  rw [hdev]
  split
  · exact ⟨rfl, id⟩
  · exact ⟨rfl, id⟩

theorem primaryCommand_flags (u : UnitNo) (s : State) :
    CommandFlags (s.dev u) ((primaryCommand u s).dev u) := by
  unfold primaryCommand
  split
  · split
    · simp [CommandFlags, cmdListen, dispatchSecondary_flags]
    · simp [CommandFlags, cmdTalk, dispatchSecondary_flags]
    · unfold cmdUnlisten
      dsimp only
      split
      · simp [CommandFlags, dispatch_flags]
      · exact cmdNone_flags u s
    · unfold cmdUntalk
      dsimp only
      split
      · simp [CommandFlags, dispatch_flags]
      · exact cmdNone_flags u s
    · exact cmdNone_flags u s
  · exact cmdNone_flags u s

theorem atnReturn_deviceOk (h : DeviceOk (s.dev u) (s.slot u)) (he : (s.dev u).enabled = true) :
    DeviceOk ((atnReturn u now s).dev u) ((atnReturn u now s).slot u) := by
  obtain ⟨⟨-, hdev, hslot⟩, -⟩ := regimeEntry_becomes u now
    (primaryCommand u (s.updDev u fun d => { d with atn := false }))
  obtain ⟨hatn, hexcl⟩ := primaryCommand_flags u (s.updDev u fun d => { d with atn := false })
  have hrun : UnitRun u now s (primaryCommand u (s.updDev u fun d => { d with atn := false })) :=
    UnitRun.refl.updDev.primaryCommand
  rw [atnReturn, hdev, hslot]
  exact deviceOk_regimeEntry (hrun.enabled_eq.trans he) (by simpa using hatn) (hexcl (by simpa using h.exclusive))

/-! ### The receive rules keep it (43_byte_receive.md) -/

section receive

variable (h : DeviceOk (s.dev u) (s.slot u)) (hr : (s.dev u).atn = true ∨ (s.dev u).listening = true)

include h hr

/-- A receiver that goes on without writing its slot: the next phase asks for the drive of the present one. -/
theorem DeviceOk.receiver_moves_on {p q : Phase} (hp : (s.dev u).phase = p)
    (hd : receiverHoldsData p = receiverHoldsData q) (hq : receivePhase (s.dev u).atn q = true)
    {n : Fin 8} {b : Byte} :
    DeviceOk { s.dev u with phase := q, cursor := n, byte := b, stamp := now } (s.slot u) := by
  rw [h.slot_of_receiver hr, hp, hd]
  exact h.receiver_moves hr hq

theorem rxPre0_deviceOk (hp : (s.dev u).phase = .pre0) :
    DeviceOk ((rxPre0 u now s).dev u) ((rxPre0 u now s).slot u) := by
  unfold rxPre0
  split
  · simpa using h.receiver_moves_on hr hp (q := .pre1) rfl rfl
  · exact h

theorem rxPre1_deviceOk (S : Snapshot) :
    DeviceOk ((rxPre1 u S now s).dev u) ((rxPre1 u S now s).slot u) := by
  unfold rxPre1
  split
  · simpa [receiverHoldsData] using h.receiver_moves hr (p := .ready) rfl
  · exact h

theorem rxReady_deviceOk (S : Snapshot) (hp : (s.dev u).phase = .ready) :
    DeviceOk ((rxReady u S now (s.dev u).atn s).dev u) ((rxReady u S now (s.dev u).atn s).slot u) := by
  unfold rxReady
  split
  · simpa using h.receiver_moves_on hr hp (q := .bit) rfl rfl
  · split
    · next ht =>
      have hatn : (s.dev u).atn = false := by simp_all
      simpa [receiverHoldsData] using h.receiver_moves hr (p := .eoi) (by simp [receivePhase, hatn])
    · exact h

theorem rxEoi_deviceOk (hp : (s.dev u).phase = .eoi) :
    DeviceOk ((rxEoi u now s).dev u) ((rxEoi u now s).slot u) := by
  have hphase := h.phase_of_receiver hr
  rw [hp] at hphase
  unfold rxEoi
  split
  · simpa [receiverHoldsData] using h.receiver_moves hr (p := .eoiw) hphase
  · exact h

theorem rxEoiw_deviceOk (S : Snapshot) (hp : (s.dev u).phase = .eoiw) :
    DeviceOk ((rxEoiw u S now s).dev u) ((rxEoiw u S now s).slot u) := by
  unfold rxEoiw
  split
  · simpa using h.receiver_moves_on hr hp (q := .bit) rfl rfl
  · exact h

theorem rxSample_deviceOk (n : Fin 8) (S : Snapshot) (hp : (s.dev u).phase = .bit) :
    DeviceOk ((rxSample n u S now s).dev u) ((rxSample n u S now s).slot u) := by
  unfold rxSample
  split
  · simpa using h.receiver_moves_on hr hp (q := .bitw) rfl rfl
  · exact h

theorem rxAdvance_deviceOk (n : Fin 8) (S : Snapshot) (hp : (s.dev u).phase = .bitw) :
    DeviceOk ((rxAdvance n u S now s).dev u) ((rxAdvance n u S now s).slot u) := by
  unfold rxAdvance
  split
  · simpa using h.receiver_moves_on hr hp (q := .bit) rfl rfl
  · exact h

theorem byteDoneListen_deviceOk (hp : (s.dev u).phase = .bitw) :
    DeviceOk ((byteDoneListen u now s).dev u) ((byteDoneListen u now s).slot u) := by
  have hdev := State.dev_dispatch_self s (.write u (channelOf (s.dev u).secondary) (s.dev u).byte)
  have hslot := h.slot_of_receiver hr
  rw [DispCall.unit_write] at hdev
  rw [hp] at hslot
  unfold byteDoneListen
  dsimp only
  split
  · simpa [hdev, latched, receiverHoldsData] using h.receiver_moves hr (p := .pre1) rfl
  · simpa [hdev, hslot, latched, receiverHoldsData] using h.receiver_moves hr (p := .done1) rfl

omit hr in
theorem byteDoneAtn_deviceOk (ha : (s.dev u).atn = true) (hp : (s.dev u).phase = .bitw) :
    DeviceOk ((byteDoneAtn u now s).dev u) ((byteDoneAtn u now s).slot u) := by
  have hcap := h.captureByte ha
  have hatn : (captureByte (s.dev u)).atn = true := by rw [captureByte_atn, ha]
  have hslot := h.slot_of_receiver (.inl ha)
  rw [hp] at hslot
  rw [byteDoneAtn_eq]
  split
  · simpa [receiverHoldsData] using hcap.receiver_moves (.inl hatn) (p := .pre1) rfl
  · simpa [hslot, receiverHoldsData] using hcap.receiver_moves (.inl hatn) (p := .done1) rfl

theorem rxStep_deviceOk (S : Snapshot) :
    DeviceOk ((rxStep u S now (s.dev u).atn s).dev u) ((rxStep u S now (s.dev u).atn s).slot u) := by
  unfold rxStep
  cases hp : (s.dev u).phase <;> dsimp only
  case pre0 => exact rxPre0_deviceOk h hr hp
  case pre1 => exact rxPre1_deviceOk h hr S
  case ready => exact rxReady_deviceOk h hr S hp
  case eoi => exact rxEoi_deviceOk h hr hp
  case eoiw => exact rxEoiw_deviceOk h hr S hp
  case bit => exact rxSample_deviceOk h hr _ S hp
  case bitw =>
    split
    · exact rxAdvance_deviceOk h hr _ S hp
    · split
      · next ha => unfold rxCompleteAtn; split; exacts [byteDoneAtn_deviceOk h ha hp, h]
      · unfold rxCompleteListen; split; exacts [byteDoneListen_deviceOk h hr hp, h]
  all_goals exact h

end receive

/-! ### The transmit rules keep it (44_byte_transmit.md) -/

section transmit

variable (h : DeviceOk (s.dev u) (s.slot u)) (hr : (s.dev u).regime = .talking)

include h hr

/-- A talker that goes on without writing its slot, from a phase in which it holds no DATA. -/
theorem DeviceOk.talker_moves_on {p q : Phase} {n : Fin 8} (hp : (s.dev u).phase = p)
    (hc : talkerHoldsClk p = talkerHoldsClk q) (hd : ∀ m, talkerMayHoldData p m = false) {b : Byte}
    {st : Vector Byte 16} :
    DeviceOk { s.dev u with phase := q, cursor := n, byte := b, status := st, stamp := now } (s.slot u) := by
  refine h.talker_moves hr (by rw [h.clk_of_talker hr, hp, hc]) fun hw => ?_
  have hmay := h.data_of_talker hr hw
  rw [hp, hd] at hmay
  cases hmay

omit h in
/-- A unit that stops talking drives nothing: a talker is not a listener. -/
theorem deviceOk_of_talker_stops {st : Vector Byte 16} :
    DeviceOk { s.dev u with talking := false, phase := .pre0, status := st, stamp := now } ⟨false, false⟩ := by
  obtain ⟨hatn, hlis, -⟩ := regime_eq_talking.mp hr
  exact deviceOk_idle hatn hlis rfl

theorem txPre0_deviceOk (S : Snapshot) :
    DeviceOk ((txPre0 u S now s).dev u) ((txPre0 u S now s).slot u) := by
  unfold txPre0
  split
  · simpa using h.talker_moves hr (p := .pre1) (w' := ⟨true, false⟩) rfl (by simp)
  · exact h

theorem txPre1_deviceOk : DeviceOk ((txPre1 u now s).dev u) ((txPre1 u now s).slot u) := by
  unfold txPre1
  split
  · simpa using h.talker_moves hr (p := .ready) (w' := ⟨false, false⟩) rfl (by simp)
  · exact h

theorem txReady_deviceOk (S : Snapshot) (hp : (s.dev u).phase = .ready) :
    DeviceOk ((txReady u S now s).dev u) ((txReady u S now s).slot u) := by
  have hdev := State.dev_dispatch_self s (.read u (channelOf (s.dev u).secondary))
  rw [DispCall.unit_read] at hdev
  unfold txReady
  split
  · dsimp only
    split
    · simpa [hdev, latched] using h.talker_moves_on hr hp (q := .bit) rfl fun _ => rfl
    · simpa [hdev, latched] using h.talker_moves_on hr hp (q := .eoi) rfl fun _ => rfl
    · simpa [hdev, latched] using deviceOk_of_talker_stops hr
  · exact h

theorem txEoi_deviceOk (S : Snapshot) (hp : (s.dev u).phase = .eoi) :
    DeviceOk ((txEoi u S now s).dev u) ((txEoi u S now s).slot u) := by
  unfold txEoi
  split
  · simpa using h.talker_moves_on hr hp (q := .eoiw) rfl fun _ => rfl
  · exact h

theorem txEoiw_deviceOk (S : Snapshot) (hp : (s.dev u).phase = .eoiw) :
    DeviceOk ((txEoiw u S now s).dev u) ((txEoiw u S now s).slot u) := by
  unfold txEoiw
  split
  · simpa using h.talker_moves_on hr hp (q := .bit) rfl fun _ => rfl
  · exact h

theorem txSetup_deviceOk (n : Fin 8) : DeviceOk ((txSetup n u now s).dev u) ((txSetup n u now s).slot u) := by
  unfold txSetup
  split
  · simpa using h.talker_moves hr (p := .bitw) (w' := ⟨true, !byteBit (s.dev u).byte n⟩) rfl fun _ => rfl
  · exact h

theorem txValid_deviceOk (n : Fin 8) : DeviceOk ((txValid n u now s).dev u) ((txValid n u now s).slot u) := by
  unfold txValid
  split
  · dsimp only
    split
    · next hn =>
      have hcursor : n + 1 ≠ 0 := by omega
      simpa using h.talker_moves hr (p := .bit) (n := n + 1) (w' := ⟨false, !byteBit (s.dev u).byte n⟩) rfl
        fun _ => by simpa [talkerMayHoldData] using hcursor
    · simpa using h.talker_moves hr (p := .done0) (w' := ⟨false, !byteBit (s.dev u).byte n⟩) rfl fun _ => rfl
  · exact h

theorem txDone0_deviceOk : DeviceOk ((txDone0 u now s).dev u) ((txDone0 u now s).slot u) := by
  unfold txDone0
  split
  · simpa using h.talker_moves hr (p := .done1) (w' := ⟨true, false⟩) rfl (by simp)
  · exact h

theorem txDone1_deviceOk (S : Snapshot) (hp : (s.dev u).phase = .done1) :
    DeviceOk ((txDone1 u S now s).dev u) ((txDone1 u S now s).slot u) := by
  unfold txDone1
  split
  · split
    · simpa using deviceOk_of_talker_stops hr
    · simpa using h.talker_moves_on hr hp (q := .pre1) rfl fun _ => rfl
  · split
    · simpa using h.talker_moves hr (p := .retry0) (w' := ⟨false, false⟩) rfl (by simp)
    · exact h

theorem txRetry0_deviceOk : DeviceOk ((txRetry0 u now s).dev u) ((txRetry0 u now s).slot u) := by
  unfold txRetry0
  split
  · simpa using h.talker_moves hr (p := .retry1) (w' := ⟨true, false⟩) rfl (by simp)
  · exact h

theorem txRetry1_deviceOk : DeviceOk ((txRetry1 u now s).dev u) ((txRetry1 u now s).slot u) := by
  unfold txRetry1
  split
  · simpa using h.talker_moves hr (p := .bit) (n := 0) (w' := ⟨false, false⟩) rfl (by simp)
  · exact h

theorem txStep_deviceOk (S : Snapshot) : DeviceOk ((txStep u S now s).dev u) ((txStep u S now s).slot u) := by
  unfold txStep
  cases hp : (s.dev u).phase
  case pre0 => exact txPre0_deviceOk h hr S
  case pre1 => exact txPre1_deviceOk h hr
  case ready => exact txReady_deviceOk h hr S hp
  case eoi => exact txEoi_deviceOk h hr S hp
  case eoiw => exact txEoiw_deviceOk h hr S hp
  case bit => exact txSetup_deviceOk h hr _
  case bitw => exact txValid_deviceOk h hr _
  case done0 => exact txDone0_deviceOk h hr
  case done1 => exact txDone1_deviceOk h hr S hp
  case retry0 => exact txRetry0_deviceOk h hr
  case retry1 => exact txRetry1_deviceOk h hr

end transmit

/-! ### The step of an enabled unit keeps it -/

theorem unitStep_deviceOk (S : Snapshot) (h : DeviceOk (s.dev u) (s.slot u)) (he : (s.dev u).enabled = true) :
    DeviceOk ((unitStep u S now s).dev u) ((unitStep u S now s).slot u) := by
  unfold unitStep
  split
  · exact atnEntry_deviceOk h he
  · split
    · exact atnReturn_deviceOk h he
    · split
      · next hr =>
        have hatn := regime_eq_underAtn.mp hr
        exact hatn ▸ rxStep_deviceOk h (.inl hatn) S
      · next hr =>
        obtain ⟨hatn, hlis⟩ := regime_eq_listening.mp hr
        exact hatn ▸ rxStep_deviceOk h (.inr hlis) S
      · next hr => exact txStep_deviceOk h hr S
      · exact h

end unit

end Sys2Proof.Machine
end

-- ==== Proofs of the state family (10_state.md): the invariant of the block, reset and the shift register ====
section

set_option Elab.async false

namespace Sys2Proof.Machine

/-! ### What a step of one unit does to the others and to itself -/

theorem UnitOkAt.mono {now now' : Clock} {s : State} {u : UnitNo} (h : UnitOkAt now s u)
    (hle : s.cfg.clockW = none → now ≤ now') : UnitOkAt now' s u :=
  { h with stamp_le := fun he hw => (h.stamp_le he hw).trans (hle hw) }

/-- Another unit's operations do not touch what holds of unit `v`. -/
theorem UnitOkAt.of_onlyUnit {now : Clock} {s t : State} {u v : UnitNo} (h : UnitOkAt now s v)
    (ho : OnlyUnit u s t) (hv : v ≠ u) : UnitOkAt now t v := by
  obtain ⟨hcfg, hinit, -, -, -, -, -, hothers⟩ := ho
  obtain ⟨hdev, hslot⟩ := hothers v hv
  exact ⟨by rw [hdev, hslot]; exact h.device, by rw [hdev, hcfg, hinit]; exact h.stepped,
    by rw [hdev, hcfg]; exact h.stamp_le⟩

/-- The step of an enabled unit keeps the invariant of every unit, at the clock it is taken. -/
theorem unitStep_unitOkAt {u v : UnitNo} {now : Clock} {s : State} (S : Snapshot)
    (he : (s.dev u).enabled = true) (h : UnitOkAt now s v) : UnitOkAt now (unitStep u S now s) v := by
  have hrun := unitStep_run u now s S
  by_cases hv : v = u
  · subst hv
    obtain ⟨hcfg, hinit, -⟩ := hrun.onlyUnit
    refine ⟨unitStep_deviceOk S h.device he, fun _ => ?_, fun _ hw => ?_⟩
    · rw [hcfg, hinit]
      exact h.stepped he
    · rcases hrun.stamp_eq with hst | hst
      · rw [hst]
        exact h.stamp_le he (hcfg ▸ hw)
      · exact hst.le
  · exact h.of_onlyUnit hrun.onlyUnit hv

/-- The loop of `exec` leaves all but the units and the Dispatcher's side, and keeps the invariant of every unit. -/
theorem stepUnits_keeps (S : Snapshot) (now : Clock) (us : List UnitNo) (s : State)
    (h : ∀ v, UnitOkAt now s v) :
    (stepUnits S now us s).port = s.port ∧ ∀ v, UnitOkAt now (stepUnits S now us s) v := by
  induction us generalizing s with
  | nil => exact ⟨rfl, h⟩
  | cons u us ih =>
    unfold stepUnits
    split
    · next he =>
      obtain ⟨hport, hunits⟩ := ih _ fun v => unitStep_unitOkAt S he (h v)
      obtain ⟨-, -, -, huport, -⟩ := (unitStep_run u now s S).onlyUnit
      exact ⟨hport.trans huport, hunits⟩
    · exact ih s h

/-! ### The operations of the host loop keep the invariant -/

theorem BlockInv.unit {s : State} (h : BlockInv s) (u : UnitNo) : UnitOkAt (s.lastNow.getD 0) s u :=
  unitOk_iff.mp (h.2 u)

theorem blockInv_of_units {s t : State} (h : BlockInv s) (hport : t.port = s.port)
    (hunits : ∀ u, UnitOkAt (t.lastNow.getD 0) t u) : BlockInv t :=
  ⟨fun e he => h.1 e (hport ▸ he), fun u => unitOk_iff.mpr (hunits u)⟩

/-- One unit goes to a DeviceState and a slot that are in order; the rest of the block stays. -/
theorem BlockInv.of_becomes {s t : State} {u : UnitNo} {d : DeviceState} {w : Slot} (h : BlockInv s)
    (hb : UnitBecomes u d w s t) (hd : DeviceOk d w)
    (hstep : d.enabled = true → inRange s.cfg u = true ∧ s.initialized = true)
    (hstamp : d.enabled = true → d.stamp ≤ s.lastNow.getD 0) : BlockInv t := by
  have ho : OnlyUnit u s t := hb.1
  obtain ⟨⟨hcfg, hinit, -, hport, -, -, hlast, -⟩, hdev, hslot⟩ := hb
  refine blockInv_of_units h hport fun v => ?_
  rw [hlast]
  by_cases hv : v = u
  · subst hv
    exact ⟨by rw [hdev, hslot]; exact hd, by rw [hdev, hcfg, hinit]; exact hstep,
      fun he _ => by rw [hdev] at he ⊢; exact hstamp he⟩
  · exact (h.unit v).of_onlyUnit ho hv

/-- Clearing a unit of an initialized block (R112, R115). -/
theorem BlockInv.clearUnit {s : State} {u : UnitNo} (h : BlockInv s) (hu : inRange s.cfg u = true)
    (hi : s.initialized = true) : BlockInv (clearUnit s u) :=
  h.of_becomes (clearUnit_becomes u s).1 (deviceOk_idle rfl rfl rfl) (fun _ => ⟨hu, hi⟩)
    (fun _ => Nat.zero_le _)

/-- Before initialization no unit is enabled, so releasing a slot changes nothing that its unit drives. -/
theorem BlockInv.release {s : State} {u : UnitNo} (h : BlockInv s) (hi : s.initialized = false) :
    BlockInv (s.fabricWrite u false false) := by
  have hdis : (s.dev u).enabled = false := by
    by_contra he
    simpa [hi] using (h.unit u).stepped (by simpa using he)
  have hslot := (h.unit u).device.slot_of_disabled hdis
  have hbecomes := (fabricWrite_becomes u false false s).1
  exact h.of_becomes hbecomes (hslot ▸ (h.unit u).device) (h.unit u).stepped
    fun he => absurd (hdis.symm.trans he) (by simp)

theorem BlockInv.foldl_release {us : List UnitNo} {s : State} (h : BlockInv s) (hi : s.initialized = false) :
    BlockInv (us.foldl (fun t u => t.fabricWrite u false false) s) := by
  induction us generalizing s with
  | nil => exact h
  | cons u us ih => exact ih (h.release hi) hi

theorem BlockInv.initOnce {s : State} (h : BlockInv s) : BlockInv (initOnce s) := by
  unfold Machine.initOnce
  split
  · exact h
  · next hi =>
    have hfold := h.foldl_release (us := unitsOf s.cfg) (by simpa using hi)
    exact blockInv_of_units hfold rfl fun u =>
      { hfold.unit u with stepped := fun he => ⟨((hfold.unit u).stepped he).1, rfl⟩ }

theorem initOnce_initialized (s : State) : (initOnce s).initialized = true := by
  unfold initOnce
  split
  · assumption
  · rfl

theorem foldl_release_cfg (us : List UnitNo) (s : State) :
    (us.foldl (fun t u => t.fabricWrite u false false) s).cfg = s.cfg := by
  induction us generalizing s with
  | nil => rfl
  | cons u us ih => exact ih _

theorem initOnce_cfg (s : State) : (initOnce s).cfg = s.cfg := by
  unfold initOnce
  split
  · rfl
  · exact foldl_release_cfg _ s

/-- The result latch is no part of the invariant. -/
theorem BlockInv.setEnableResult {s : State} (h : BlockInv s) (r : Option EnableResult) :
    BlockInv { s with enableResult := r } :=
  ⟨h.1, h.2⟩

theorem BlockInv.enable {s t : State} {i : Int} (h : BlockInv s) (ht : execEnable i s = .next t) :
    BlockInv t := by
  unfold execEnable at ht
  split at ht
  · cases ht
    exact h.setEnableResult _
  · next u hu =>
    have hrange := (unitOperand_eq_some.mp hu).1
    have hinit := h.initOnce
    dsimp only at ht
    split at ht
    · cases ht
      exact hinit.setEnableResult _
    · cases ht
      exact (hinit.clearUnit (by rw [initOnce_cfg]; exact hrange) (initOnce_initialized s)).setEnableResult _

theorem disable_becomes (u : UnitNo) (s : State) :
    QuietlyBecomes u
      { s.dev u with enabled := false, atn := false, listening := false, talking := false, phase := .pre0 }
      ⟨false, false⟩ s
      ((s.updDev u fun d =>
        { d with enabled := false, atn := false, listening := false, talking := false,
                 phase := .pre0 }).fabricWrite u false false) :=
  ⟨⟨(OnlyUnit.updDev u _ s).trans (.fabricWrite u _ _ _), by simp, by simp⟩, rfl, rfl⟩

theorem BlockInv.disable {s t : State} {i : Int} (h : BlockInv s) (ht : execDisable i s = .next t) :
    BlockInv t := by
  unfold execDisable at ht
  split at ht
  · cases ht
    exact h
  · next u _ =>
    split at ht
    · cases ht
      exact h.of_becomes (disable_becomes u s).1 (deviceOk_idle rfl rfl rfl) (fun he => by cases he)
        (fun he => by cases he)
    · cases ht
      exact h

/-- `reset` clears only enabled units, which are units of an initialized block. -/
theorem BlockInv.foldl_clear {us : List UnitNo} {s : State} (h : BlockInv s) :
    BlockInv (us.foldl (fun t u => if (t.dev u).enabled then Machine.clearUnit t u else t) s) := by
  induction us generalizing s with
  | nil => exact h
  | cons u us ih =>
    refine ih ?_
    dsimp only
    split
    · next he =>
      obtain ⟨hu, hi⟩ := (h.unit u).stepped he
      exact h.clearUnit hu hi
    · exact h

theorem BlockInv.exec {s t : State} {now : Clock} (h : BlockInv s) (ht : execExec now s = .next t) :
    BlockInv t := by
  obtain ⟨hi, rfl⟩ | ⟨-, hclock, rfl⟩ := execExec_cases ht
  · have hnone : ∀ u, (s.dev u).enabled = true → False := fun u he => by
      simpa [hi] using (h.unit u).stepped he
    exact blockInv_of_units h rfl fun u =>
      { h.unit u with stamp_le := fun he => (hnone u he).elim }
  · have hle : s.cfg.clockW = none → s.lastNow.getD 0 ≤ now := fun hw => by
      cases hl : s.lastNow with
      | none => exact Nat.zero_le _
      | some p =>
        by_contra hlt
        exact absurd (hclock.symm.trans (clockBack_eq_some.mpr ⟨hw, hl, by simpa using hlt⟩)) (by simp)
    obtain ⟨hport, hunits⟩ :=
      stepUnits_keeps s.fabricRead now (unitsOf s.cfg) s fun v => (h.unit v).mono hle
    exact blockInv_of_units h hport fun u =>
      ⟨(hunits u).device, (hunits u).stepped, (hunits u).stamp_le⟩

/-! ### A step of the host loop -/

/-- Taking an operation from the port keeps the invariant, and the operation is one of the controller's (R219). -/
theorem BlockInv.fetch {s : State} (h : BlockInv s) :
    BlockInv (fetch s).2 ∧ (Machine.fetch s).1.fmt = .ctl := by
  cases hport : s.port with
  | nil =>
    rw [fetch_nil hport]
    exact ⟨h, rfl⟩
  | cons e rest =>
    rw [fetch_cons hport]
    have hhost : ∀ e' ∈ e :: rest, e'.word.fmt = .ctl := hport ▸ h.1
    refine ⟨⟨fun e' he' => hhost e' (.tail _ he'), fun u => unitOk_iff.mpr ?_⟩, hhost e (.head _)⟩
    exact ⟨(h.unit u).device, (h.unit u).stepped, (h.unit u).stamp_le⟩

/-- The rows of the controller's format (30_encoding.md R84). -/
theorem decode_controller_cases {w : PortWord} {i : Instr} (hf : w.fmt = .ctl) (hd : decode w = .ok i) :
    i = .nop ∨ i = .init ∨ i = .enable w.num ∨ i = .disable w.num ∨ i = .reset ∨ i = .exec w.now := by
  unfold decode at hd
  rw [hf] at hd
  dsimp only at hd
  unfold decodeControl at hd
  split at hd <;> cases hd <;> simp

theorem step_eq_next {s t : State} (h : step s = .next t) :
    ∃ i, decode (fetch s).1 = .ok i ∧ exec i (fetch s).2 = .next t := by
  unfold step at h
  split at h
  · next i hi => exact ⟨i, hi, h⟩
  · cases h

/-- Settles O10: the operation taken from the port is one of the controller's, and each of them keeps the
invariant; `exec` because every unit step does, at the clock it is taken. -/
theorem stepKeepsTheInvariant : Obligations.StepKeepsTheInvariant := by
  intro s t hinv hstep
  obtain ⟨i, hdecode, hexec⟩ := step_eq_next hstep
  obtain ⟨hfetched, hctl⟩ := hinv.fetch
  obtain rfl | rfl | rfl | rfl | rfl | rfl := decode_controller_cases hctl hdecode
  · cases hexec
    exact hfetched
  · cases hexec
    exact hfetched.initOnce
  · exact hfetched.enable hexec
  · exact hfetched.disable hexec
  · cases hexec
    exact hfetched.foldl_clear
  · exact hfetched.exec hexec

/-! ### Reset (R38) -/

@[simp] theorem reset_dev (u : UnitNo) : State.reset.dev u = DeviceState.powerOn := by
  simp [State.dev, State.reset]

@[simp] theorem reset_slot (u : UnitNo) : State.reset.slot u = ⟨false, false⟩ := by
  simp [State.slot, State.reset]

theorem reset_statusOf (u : UnitNo) (c : Channel) : State.reset.statusOf u c = 0x00#8 := by
  simp [State.statusOf, DeviceState.powerOn]

/-- Settles O8: every unit stands at the power-on DeviceState with its slot released. -/
theorem resetIsPowerOn : Obligations.ResetIsPowerOn := by
  refine ⟨rfl, fun u => ?_⟩
  rw [reset_slot, reset_dev]
  exact ⟨rfl, rfl, rfl, rfl, rfl, rfl, rfl, rfl, rfl, rfl, rfl, rfl, rfl, reset_statusOf u⟩

/-- Settles O9: the port is empty, and a unit at power-on is disabled and idle, and drives nothing. -/
theorem resetMeetsTheInvariant : Obligations.ResetMeetsTheInvariant := by
  refine ⟨fun e he => absurd he List.not_mem_nil, fun u => unitOk_iff.mpr ⟨?_, ?_, ?_⟩⟩
  · rw [reset_dev, reset_slot]
    exact deviceOk_idle rfl rfl rfl
  · rw [reset_dev]
    exact fun he => by cases he
  · rw [reset_dev]
    exact fun he => by cases he

/-! ### The shift register (R24) -/

/-- Writing one bit of the register: that bit is the sample, and the others stay. -/
theorem byteBit_setByteBit (b : Byte) (n m : Fin 8) (v : Bool) :
    byteBit (setByteBit b n v) m = if m = n then v else byteBit b m := by
  have hbit : (BitVec.twoPow 8 n.val).getLsbD m.val = decide (m = n) := by
    simp [Fin.ext_iff, eq_comm]
  unfold byteBit setByteBit
  cases v <;> by_cases h : m = n <;> simp_all

/-- After a list of cursor positions has been sampled, a bit at one of them is its sample. -/
theorem byteBit_foldl_setByteBit (level : Fin 8 → Bool) (m : Fin 8) (ns : List (Fin 8)) (b : Byte) :
    byteBit (ns.foldl (fun b n => setByteBit b n (level n)) b) m =
      if m ∈ ns then level m else byteBit b m := by
  induction ns generalizing b with
  | nil => simp
  | cons n ns ih =>
    rw [List.foldl_cons, ih, byteBit_setByteBit]
    by_cases hmem : m ∈ ns
    · simp [hmem]
    · by_cases hn : m = n
      · simp [hn]
      · simp [hmem, hn]

theorem ofBits_eq_sum {n : Nat} (f : Fin n → Bool) : Nat.ofBits f = ∑ i, if f i then 2 ^ i.val else 0 := by
  induction n with
  | zero => rfl
  | succ n ih =>
    have hdouble (i : Fin n) : 2 * (if f i.succ then 2 ^ i.val else 0) = if f i.succ then 2 ^ i.succ.val else 0 := by
      split <;> simp [pow_succ, mul_comm]
    rw [Nat.ofBits_succ, ih, Fin.sum_univ_succ, Finset.mul_sum]
    simp only [Function.comp_apply, hdouble]
    cases f 0 <;> simp [add_comm]

/-- A byte is the sum of the weights of its set bits (20_memory.md R53). -/
theorem byte_toNat_eq_sum (b : Byte) : b.toNat = ∑ n : Fin 8, if byteBit b n then 2 ^ n.val else 0 :=
  calc b.toNat = b.toNat % 2 ^ 8 := (Nat.mod_eq_of_lt b.isLt).symm
    _ = Nat.ofBits fun n : Fin 8 => b.toNat.testBit n := (Nat.ofBits_testBit _ _).symm
    _ = ∑ n : Fin 8, if byteBit b n then 2 ^ n.val else 0 := ofBits_eq_sum _

/-- Settles O60: the eight cursor positions are all the bits, and the bits are the value. -/
theorem eightSamplesFormTheByte : Obligations.EightSamplesFormTheByte := by
  intro old level received
  have hbits : ∀ n, byteBit received n = level n := fun n => by
    simp [received, byteBit_foldl_setByteBit]
  refine ⟨hbits, ?_⟩
  rw [byte_toNat_eq_sum]
  simp only [hbits]

end Sys2Proof.Machine
end

-- ==== Proofs of the memory family (20_memory.md): the calls of one unit's step ====
section

namespace Sys2Proof.Machine

/-! ### At most one Dispatcher call, in the unit's own name (R51, 45_dispatcher.md R202 (b)) -/

/-- From `s` to `t` no Dispatcher call was made, or exactly one, which names unit `u`. -/
def AtMostOneCall (u : UnitNo) (s t : State) : Prop :=
  NoCall s t ∨ ∃ call, call.unit = u ∧ OneCall call s t

theorem NoCall.ite {c : Prop} [Decidable c] {s t r : State} (ht : NoCall s t) (hr : NoCall s r) :
    NoCall s (if c then t else r) := by
  split
  exacts [ht, hr]

/-- A call sees its own unit's status table and the answers to come, so an assignment that keeps the table may stand
before it. -/
theorem OneCall.of_updDev {u : UnitNo} {f : DeviceState → DeviceState} {call : DispCall} {s t : State}
    (hf : (f (s.dev u)).status = (s.dev u).status) (h : OneCall call (s.updDev u f) t) : OneCall call s t := by
  have hstatus : ((s.updDev u f).dev call.unit).status = (s.dev call.unit).status := by
    rw [State.dev_updDev]
    split
    · next hu => rw [hf, hu]
    · rfl
  have hanswer : (s.updDev u f).answerTo call = s.answerTo call := by
    simp only [State.answerTo, State.updDev_answers, State.updDev_calls, hstatus]
  obtain ⟨hcalls, hanswers⟩ := h
  exact ⟨by rw [hcalls, hstatus, hanswer]; rfl, hanswers⟩

theorem AtMostOneCall.of_updDev {u : UnitNo} {f : DeviceState → DeviceState} {s t : State}
    (hf : (f (s.dev u)).status = (s.dev u).status) (h : AtMostOneCall u (s.updDev u f) t) :
    AtMostOneCall u s t :=
  h.imp id fun ⟨call, hu, hone⟩ => ⟨call, hu, hone.of_updDev hf⟩

theorem AtMostOneCall.dispatch (call : DispCall) (s : State) : AtMostOneCall call.unit s (s.dispatch call) :=
  .inr ⟨call, rfl, (dispatch_becomes call s).2⟩

theorem AtMostOneCall.trans_noCall {u : UnitNo} {s t r : State} (h : AtMostOneCall u s t) (k : NoCall t r) :
    AtMostOneCall u s r := by
  obtain ⟨kcalls, kanswers⟩ := k
  obtain hno | ⟨call, hu, hcalls, hanswers⟩ := h
  · exact .inl (hno.trans ⟨kcalls, kanswers⟩)
  · exact .inr ⟨call, hu, kcalls.trans hcalls, kanswers.trans hanswers⟩

/-! ### The ATN event makes at most the call of its command -/

theorem dispatchSecondary_atMostOneCall (u : UnitNo) (s : State) : AtMostOneCall u s (dispatchSecondary u s) := by
  unfold dispatchSecondary
  split
  · have h := AtMostOneCall.dispatch (secondaryCall u (s.dev u).secondary) s
    rwa [secondaryCall_unit] at h
  · exact .inl (.refl s)

theorem cmdUnlisten_atMostOneCall (u : UnitNo) (s : State) : AtMostOneCall u s (cmdUnlisten u s) := by
  unfold cmdUnlisten
  dsimp only
  split
  · exact .of_updDev (by rfl) (.dispatch (.unlisten u _ _) _)
  · exact .inl (cmdNone_becomes u s).2

theorem cmdUntalk_atMostOneCall (u : UnitNo) (s : State) : AtMostOneCall u s (cmdUntalk u s) := by
  unfold cmdUntalk
  dsimp only
  split
  · exact .of_updDev (by rfl) (.dispatch (.untalk u _ _) _)
  · exact .inl (cmdNone_becomes u s).2

theorem primaryCommand_atMostOneCall (u : UnitNo) (s : State) : AtMostOneCall u s (primaryCommand u s) := by
  unfold primaryCommand
  split
  · split
    · exact .of_updDev (by rfl) (dispatchSecondary_atMostOneCall u _)
    · exact .of_updDev (by rfl) (dispatchSecondary_atMostOneCall u _)
    · exact cmdUnlisten_atMostOneCall u s
    · exact cmdUntalk_atMostOneCall u s
    · exact .inl (cmdNone_becomes u s).2
  · exact .inl (cmdNone_becomes u s).2

section step

variable (u : UnitNo) (now : Clock) (s : State)

theorem atnReturn_atMostOneCall : AtMostOneCall u s (atnReturn u now s) :=
  (AtMostOneCall.of_updDev (by rfl) (primaryCommand_atMostOneCall u _)).trans_noCall (regimeEntry_becomes u now _).2

/-! ### Of the phase rules only the delivery and the fetch of a byte make a call (45_dispatcher.md R194, R195) -/

theorem byteDoneAtn_noCall : NoCall s (byteDoneAtn u now s) := .ite ⟨rfl, rfl⟩ ⟨rfl, rfl⟩

theorem byteDoneListen_atMostOneCall : AtMostOneCall u s (byteDoneListen u now s) := by
  have hcall := AtMostOneCall.dispatch (.write u (channelOf (s.dev u).secondary) (s.dev u).byte) s
  unfold byteDoneListen
  dsimp only
  split
  · exact hcall.trans_noCall ⟨rfl, rfl⟩
  · exact hcall.trans_noCall ⟨rfl, rfl⟩

theorem rxStep_atMostOneCall (S : Snapshot) (underAtn : Bool) :
    AtMostOneCall u s (rxStep u S now underAtn s) := by
  unfold rxStep
  cases (s.dev u).phase <;> dsimp only
  case pre0 => exact .inl (.ite ⟨rfl, rfl⟩ (.refl s))
  case pre1 => exact .inl (.ite ⟨rfl, rfl⟩ (.refl s))
  case ready => exact .inl (.ite ⟨rfl, rfl⟩ (.ite ⟨rfl, rfl⟩ (.refl s)))
  case eoi => exact .inl (.ite ⟨rfl, rfl⟩ (.refl s))
  case eoiw => exact .inl (.ite ⟨rfl, rfl⟩ (.refl s))
  case bit => exact .inl (.ite ⟨rfl, rfl⟩ (.refl s))
  case bitw =>
    split
    · exact .inl (.ite ⟨rfl, rfl⟩ (.refl s))
    · split
      · exact .inl (.ite (byteDoneAtn_noCall u now s) (.refl s))
      · unfold rxCompleteListen
        split
        exacts [byteDoneListen_atMostOneCall u now s, .inl (.refl s)]
  all_goals exact .inl (.refl s)

theorem txReady_atMostOneCall (S : Snapshot) : AtMostOneCall u s (txReady u S now s) := by
  have hcall := AtMostOneCall.dispatch (.read u (channelOf (s.dev u).secondary)) s
  unfold txReady
  split
  · dsimp only
    split
    · exact hcall.trans_noCall ⟨rfl, rfl⟩
    · exact hcall.trans_noCall ⟨rfl, rfl⟩
    · exact hcall.trans_noCall ⟨rfl, rfl⟩
  · exact .inl (.refl s)

theorem txStep_atMostOneCall (S : Snapshot) : AtMostOneCall u s (txStep u S now s) := by
  unfold txStep
  cases (s.dev u).phase <;> dsimp only
  case pre0 => exact .inl (.ite ⟨rfl, rfl⟩ (.refl s))
  case pre1 => exact .inl (.ite ⟨rfl, rfl⟩ (.refl s))
  case ready => exact txReady_atMostOneCall u now s S
  case eoi => exact .inl (.ite ⟨rfl, rfl⟩ (.refl s))
  case eoiw => exact .inl (.ite ⟨rfl, rfl⟩ (.refl s))
  case bit => exact .inl (.ite ⟨rfl, rfl⟩ (.refl s))
  case bitw => exact .inl (.ite (.ite ⟨rfl, rfl⟩ ⟨rfl, rfl⟩) (.refl s))
  case done0 => exact .inl (.ite ⟨rfl, rfl⟩ (.refl s))
  case done1 => exact .inl (.ite (.ite ⟨rfl, rfl⟩ ⟨rfl, rfl⟩) (.ite ⟨rfl, rfl⟩ (.refl s)))
  case retry0 => exact .inl (.ite ⟨rfl, rfl⟩ (.refl s))
  case retry1 => exact .inl (.ite ⟨rfl, rfl⟩ (.refl s))

theorem unitStep_atMostOneCall (S : Snapshot) : AtMostOneCall u s (unitStep u S now s) := by
  unfold unitStep
  split
  · exact .inl (atnEntry_becomes u now s).2
  · split
    · exact atnReturn_atMostOneCall u now s
    · split
      · exact rxStep_atMostOneCall u now s S true
      · exact rxStep_atMostOneCall u now s S false
      · exact txStep_atMostOneCall u now s S
      · exact .inl (.refl s)

end step

/-- Settles O29: the step is a run of operations on the unit alone, of which at most one is a call. -/
theorem unitStepTouchesOnlyItsUnit : Obligations.UnitStepTouchesOnlyItsUnit :=
  fun s x => ⟨(unitStep_run x.unit x.now s x.snap).onlyUnit, unitStep_atMostOneCall x.unit x.now s x.snap⟩

end Sys2Proof.Machine
end

-- ==== Proofs of the memory family (20_memory.md): the loop of exec ====
section

namespace Sys2Proof.Machine

/-! ### What the steps of several units change (R51, 41_device_controller.md R118, R119) -/

/-- From `s` to `t` only the DeviceStates and slots of the units `us` may differ, and new calls name these units and
have consumed as many answers. -/
structure OnlyUnits (us : List UnitNo) (s t : State) : Prop where
  frame : t = { s with devs := t.devs, slots := t.slots, answers := t.answers, calls := t.calls }
  others : ∀ v, v ∉ us → t.dev v = s.dev v ∧ t.slot v = s.slot v
  calls : ∃ new, t.calls = new ++ s.calls ∧ t.answers = s.answers.drop new.length ∧
    ∀ k ∈ new, k.call.unit ∈ us

theorem OnlyUnits.cfg_eq {us : List UnitNo} {s t : State} (h : OnlyUnits us s t) : t.cfg = s.cfg := by
  rw [h.frame]

theorem OnlyUnits.refl (us : List UnitNo) (s : State) : OnlyUnits us s s :=
  ⟨rfl, fun _ _ => ⟨rfl, rfl⟩, [], rfl, rfl, by simp⟩

theorem OnlyUnits.trans {us : List UnitNo} {s t r : State} (h : OnlyUnits us s t) (k : OnlyUnits us t r) :
    OnlyUnits us s r := by
  obtain ⟨hframe, hothers, new, hcalls, hanswers, hnames⟩ := h
  obtain ⟨kframe, kothers, later, kcalls, kanswers, knames⟩ := k
  refine ⟨?_, fun v hv => ?_, later ++ new, ?_, ?_, fun e he => ?_⟩
  · exact kframe.trans (congrArg (fun x : State =>
      { x with devs := r.devs, slots := r.slots, answers := r.answers, calls := r.calls }) hframe)
  · obtain ⟨hdev, hslot⟩ := hothers v hv
    obtain ⟨kdev, kslot⟩ := kothers v hv
    exact ⟨kdev.trans hdev, kslot.trans hslot⟩
  · rw [kcalls, hcalls, List.append_assoc]
  · rw [kanswers, hanswers, List.drop_drop, List.length_append, Nat.add_comm]
  · exact (List.mem_append.mp he).elim (knames e) (hnames e)

theorem OnlyUnits.mono {us vs : List UnitNo} {s t : State} (h : OnlyUnits us s t) (hsub : us ⊆ vs) :
    OnlyUnits vs s t := by
  obtain ⟨hframe, hothers, new, hcalls, hanswers, hnames⟩ := h
  exact ⟨hframe, fun v hv => hothers v (mt (@hsub v) hv), new, hcalls, hanswers, fun k hk => hsub (hnames k hk)⟩

theorem unitStep_onlyUnits (u : UnitNo) (S : Snapshot) (now : Clock) (s : State) :
    OnlyUnits [u] s (unitStep u S now s) := by
  obtain ⟨hcfg, hinit, hm, hport, hresult, hread, hlast, hothers⟩ := (unitStep_run u now s S).onlyUnit
  refine ⟨?_, fun v hv => hothers v (by simpa using hv), ?_⟩
  · rw [← hcfg, ← hinit, ← hm, ← hport, ← hresult, ← hread, ← hlast]
  · obtain ⟨hcalls, hanswers⟩ | ⟨call, hu, hcalls, hanswers⟩ := unitStep_atMostOneCall u now s S
    · exact ⟨[], hcalls, hanswers, by simp⟩
    · exact ⟨[_], hcalls, hanswers.trans List.drop_one.symm, by simp [hu]⟩

theorem stepUnits_onlyUnits (S : Snapshot) (now : Clock) (us : List UnitNo) (s : State) :
    OnlyUnits us s (stepUnits S now us s) := by
  induction us generalizing s with
  | nil => exact .refl [] s
  | cons u us ih =>
    have hrest (r : State) : OnlyUnits (u :: us) r (stepUnits S now us r) :=
      (ih r).mono (List.subset_cons_self u us)
    unfold stepUnits
    split
    · exact ((unitStep_onlyUnits u S now s).mono (by simp)).trans (hrest _)
    · exact hrest s

/-! ### The place of one unit in the loop -/

theorem stepUnits_append (S : Snapshot) (now : Clock) (us vs : List UnitNo) (s : State) :
    stepUnits S now (us ++ vs) s = stepUnits S now vs (stepUnits S now us s) := by
  induction us generalizing s with
  | nil => rfl
  | cons u us ih => exact ih _

/-- In an ascending list a unit is stepped between the lower ones and the higher ones. -/
theorem ascending_split {us : List UnitNo} {u : UnitNo} (hus : us.Pairwise (· < ·)) (hu : u ∈ us) :
    ∃ lower higher, us = lower ++ u :: higher ∧ (∀ v ∈ lower, v < u) ∧ ∀ v ∈ higher, u < v := by
  obtain ⟨lower, higher, rfl⟩ := List.append_of_mem hu
  obtain ⟨-, hcons, hcross⟩ := List.pairwise_append.mp hus
  exact ⟨lower, higher, rfl, fun v hv => hcross v hv u (.head _), fun _ => List.rel_of_pairwise_cons hcons⟩

/-- `t` is what the loop leaves of unit `u`, stepped on the snapshot `S` after the lower units and before the higher
ones. -/
def TookOwnStep (u : UnitNo) (S : Snapshot) (now : Clock) (s t : State) : Prop :=
  ∃ r : State, r.dev u = s.dev u ∧ r.slot u = s.slot u ∧ r.cfg = s.cfg ∧
    (∃ new, r.calls = new ++ s.calls ∧ r.answers = s.answers.drop new.length ∧ ∀ k ∈ new, k.call.unit < u) ∧
    (∃ later, t.calls = later ++ (unitStep u S now r).calls ∧ ∀ k ∈ later, u < k.call.unit) ∧
    t.dev u = (unitStep u S now r).dev u ∧ t.slot u = (unitStep u S now r).slot u

/-- The lower units' steps do not reach unit `u`, so it is stepped or passed over by its flag as it was in `s`. -/
theorem stepUnits_split {us : List UnitNo} {u : UnitNo} (S : Snapshot) (now : Clock) (s : State)
    (hus : us.Pairwise (· < ·)) (hu : u ∈ us) :
    ∃ lower higher, (∀ v ∈ lower, v < u) ∧ (∀ v ∈ higher, u < v) ∧
      stepUnits S now us s = stepUnits S now higher
        (if (s.dev u).enabled then unitStep u S now (stepUnits S now lower s) else stepUnits S now lower s) := by
  obtain ⟨lower, higher, rfl, hlower, hhigher⟩ := ascending_split hus hu
  have hdev := ((stepUnits_onlyUnits S now lower s).others u fun h => (hlower u h).false).1
  exact ⟨lower, higher, hlower, hhigher, by rw [stepUnits_append, stepUnits, hdev]⟩

theorem stepUnits_of_enabled {us : List UnitNo} {u : UnitNo} (S : Snapshot) (now : Clock) (s : State)
    (hus : us.Pairwise (· < ·)) (hu : u ∈ us) (he : (s.dev u).enabled = true) :
    TookOwnStep u S now s (stepUnits S now us s) := by
  obtain ⟨lower, higher, hlower, hhigher, hloop⟩ := stepUnits_split S now s hus hu
  rw [hloop, if_pos he]
  have hbefore := stepUnits_onlyUnits S now lower s
  obtain ⟨hdev, hslot⟩ := hbefore.others u fun h => (hlower u h).false
  obtain ⟨new, hcalls, hanswers, hnames⟩ := hbefore.calls
  have hafter := stepUnits_onlyUnits S now higher (unitStep u S now (stepUnits S now lower s))
  obtain ⟨later, lcalls, -, lnames⟩ := hafter.calls
  exact ⟨_, hdev, hslot, hbefore.cfg_eq,
    ⟨new, hcalls, hanswers, fun k hk => hlower _ (hnames k hk)⟩,
    ⟨later, lcalls, fun k hk => hhigher _ (lnames k hk)⟩,
    hafter.others u fun h => (hhigher u h).false⟩

theorem stepUnits_of_disabled {us : List UnitNo} {u : UnitNo} (S : Snapshot) (now : Clock) (s : State)
    (hus : us.Pairwise (· < ·)) (hu : u ∈ us) (he : (s.dev u).enabled ≠ true) :
    (stepUnits S now us s).dev u = s.dev u ∧ (stepUnits S now us s).slot u = s.slot u := by
  obtain ⟨lower, higher, hlower, hhigher, hloop⟩ := stepUnits_split S now s hus hu
  rw [hloop, if_neg he]
  obtain ⟨hdev, hslot⟩ := (stepUnits_onlyUnits S now lower s).others u fun h => (hlower u h).false
  obtain ⟨kdev, kslot⟩ :=
    (stepUnits_onlyUnits S now higher (stepUnits S now lower s)).others u fun h => (hhigher u h).false
  exact ⟨kdev.trans hdev, kslot.trans hslot⟩

/-! ### `exec` on an initialized controller -/

theorem stepped_iff {s : State} {u : UnitNo} :
    Stepped s u ↔ u ∈ unitsOf s.cfg ∧ (s.dev u).enabled = true := by
  simp [Stepped, mem_unitsOf, inRange, and_assoc]

theorem execExec_of_initialized {s : State} {now : Clock} (hi : s.initialized = true) (hc : ClockOk s now) :
    execExec now s = .next { stepUnits s.fabricRead now (unitsOf s.cfg) s with lastNow := some now } := by
  rw [execExec, if_pos hi, clockBack_eq_none hc]

/-- Settles O21: the loop splits at each unit into the steps of the lower units, its own step, and the steps of the
higher units, and the steps of other units change nothing that is its own. -/
theorem execStepsEachEnabledUnitOnOneSnapshot : Obligations.ExecStepsEachEnabledUnitOnOneSnapshot := by
  intro s now hi hc
  have hall := stepUnits_onlyUnits s.fabricRead now (unitsOf s.cfg) s
  refine ⟨_, execExec_of_initialized hi hc, ?_, fun u => ⟨fun hs => ?_, fun hs => ?_⟩⟩
  · exact congrArg (fun x : State => { x with lastNow := some now }) hall.frame
  · obtain ⟨hu, he⟩ := stepped_iff.mp hs
    exact stepUnits_of_enabled s.fabricRead now s (unitsOf_ascending s.cfg) hu he
  · by_cases hu : u ∈ unitsOf s.cfg
    · exact stepUnits_of_disabled s.fabricRead now s (unitsOf_ascending s.cfg) hu fun he =>
        hs (stepped_iff.mpr ⟨hu, he⟩)
    · exact hall.others u hu

end Sys2Proof.Machine
end

-- ==== Proofs of the encoding family (30_encoding.md): the bytes of the two address maps ====
section

namespace Sys2Proof

open Machine

/-! ### A byte and its fields -/

theorem append_toNat {m n : Nat} (x : BitVec m) (y : BitVec n) :
    (x ++ y).toNat = 2 ^ n * x.toNat + y.toNat := by
  rw [BitVec.toNat_append, ← Nat.shiftLeft_add_eq_or_of_lt y.isLt, Nat.shiftLeft_eq, Nat.mul_comm]

theorem listenByte_toNat (a : BitVec 5) : (0b001#3 ++ a).toNat = 0x20 + a.toNat :=
  append_toNat _ a

theorem talkByte_toNat (a : BitVec 5) : (0b010#3 ++ a).toNat = 0x40 + a.toNat :=
  append_toNat _ a

theorem nibbles_toNat (k : BitVec 4) (c : Channel) :
    (k ++ BitVec.ofFin (w := 4) c).toNat = 16 * k.toNat + c.val :=
  append_toNat k _

/-- Address 31 is the broadcast of its group, no unit's number (R72). -/
theorem address_lt_of_ne {a : BitVec 5} (ha : a ≠ 31#5) : a.toNat < 31 := by
  have hne : a.toNat ≠ 31 := fun h => ha (BitVec.eq_of_toNat_eq h)
  omega

theorem group_append_address (p : Byte) : p.extractLsb' 5 3 ++ p.extractLsb' 0 5 = p :=
  (BitVec.extractLsb'_append_extractLsb'_eq_extractLsb' rfl).trans BitVec.extractLsb'_eq_self

/-! ### The primary bytes (R70, R73) -/

/-- The five kinds of primary byte, each with the operand its row takes. -/
inductive PrimaryByte : Byte → Prop
  | listen (a : BitVec 5) (ha : a ≠ 31#5) : PrimaryByte (0b001#3 ++ a)
  | talk (a : BitVec 5) (ha : a ≠ 31#5) : PrimaryByte (0b010#3 ++ a)
  | unlisten : PrimaryByte 0x3F#8
  | untalk : PrimaryByte 0x5F#8
  | other (p : Byte) (hp : p.toNat < 0x20 ∨ 0x60 ≤ p.toNat) : PrimaryByte p

theorem primaryByte_append (g : BitVec 3) (a : BitVec 5) : PrimaryByte (g ++ a) := by
  by_cases hlisten : g = 0b001#3
  · subst hlisten
    by_cases ha : a = 31#5
    · exact ha ▸ .unlisten
    · exact .listen a ha
  by_cases htalk : g = 0b010#3
  · subst htalk
    by_cases ha : a = 31#5
    · exact ha ▸ .untalk
    · exact .talk a ha
  have h1 : g.toNat ≠ 1 := fun h => hlisten (BitVec.eq_of_toNat_eq h)
  have h2 : g.toNat ≠ 2 := fun h => htalk (BitVec.eq_of_toNat_eq h)
  exact .other _ (by rw [append_toNat]; omega)

/-- The map is complete: the group `p[7:5]` and the address `p[4:0]` tell every byte's kind. -/
theorem primaryByte (p : Byte) : PrimaryByte p :=
  group_append_address p ▸ primaryByte_append _ _

section primary

variable (u : UnitNo) {a : BitVec 5} {p : Byte}

/-- `p` is neither UNLISTEN nor UNTALK: both maps ask this of the whole byte (R70). -/
def NotBroadcast (p : Byte) : Prop := p ≠ 0x3F#8 ∧ p ≠ 0x5F#8

theorem notBroadcast_iff : NotBroadcast p ↔ p.toNat ≠ 0x3F ∧ p.toNat ≠ 0x5F :=
  and_congr BitVec.toNat_ne_iff_ne.symm BitVec.toNat_ne_iff_ne.symm

theorem notBroadcast_listen (ha : a ≠ 31#5) : NotBroadcast (0b001#3 ++ a) := by
  have hlt := address_lt_of_ne ha
  rw [notBroadcast_iff, listenByte_toNat]
  omega

theorem notBroadcast_talk (ha : a ≠ 31#5) : NotBroadcast (0b010#3 ++ a) := by
  have hlt := address_lt_of_ne ha
  rw [notBroadcast_iff, talkByte_toNat]
  omega

theorem notBroadcast_other (hp : p.toNat < 0x20 ∨ 0x60 ≤ p.toNat) : NotBroadcast p := by
  rw [notBroadcast_iff]
  omega

/-! The decoder, kind by kind. -/

theorem decodePrimary_of_notBroadcast (h : NotBroadcast p) :
    decodePrimary u p =
      if p.extractLsb' 5 3 = 0b001#3 then .listen u (p.extractLsb' 0 5)
      else if p.extractLsb' 5 3 = 0b010#3 then .talk u (p.extractLsb' 0 5) else .other u p := by
  obtain ⟨hunlisten, huntalk⟩ := h
  rw [decodePrimary, if_neg hunlisten, if_neg huntalk]

theorem decodePrimary_listen (ha : a ≠ 31#5) : decodePrimary u (0b001#3 ++ a) = .listen u a := by
  rw [decodePrimary_of_notBroadcast u (notBroadcast_listen ha), BitVec.extractLsb'_append_eq_left,
    BitVec.extractLsb'_append_eq_right, if_pos rfl]

theorem decodePrimary_talk (ha : a ≠ 31#5) : decodePrimary u (0b010#3 ++ a) = .talk u a := by
  rw [decodePrimary_of_notBroadcast u (notBroadcast_talk ha), BitVec.extractLsb'_append_eq_left,
    BitVec.extractLsb'_append_eq_right, if_neg (by decide), if_pos rfl]

theorem decodePrimary_unlisten : decodePrimary u 0x3F#8 = .unlisten u := rfl

theorem decodePrimary_untalk : decodePrimary u 0x5F#8 = .untalk u := rfl

theorem decodePrimary_other (hp : p.toNat < 0x20 ∨ 0x60 ≤ p.toNat) : decodePrimary u p = .other u p := by
  have hgroup : (p.extractLsb' 5 3).toNat = p.toNat / 32 := by
    rw [BitVec.extractLsb'_toNat]
    omega
  have hlisten : p.extractLsb' 5 3 ≠ 0b001#3 := by
    rw [← BitVec.toNat_ne_iff_ne, hgroup]
    simp
    omega
  have htalk : p.extractLsb' 5 3 ≠ 0b010#3 := by
    rw [← BitVec.toNat_ne_iff_ne, hgroup]
    simp
    omega
  rw [decodePrimary_of_notBroadcast u (notBroadcast_other hp), if_neg hlisten, if_neg htalk]

/-! The unit's class of the byte, kind by kind (R71, R73). -/

theorem pClass_of_notBroadcast (h : NotBroadcast p) :
    pClass p u =
      if p.toNat = 0x20 + u.val then .listenMe else if p.toNat = 0x40 + u.val then .talkMe else .other := by
  obtain ⟨hunlisten, huntalk⟩ := h
  rw [pClass, if_neg hunlisten, if_neg huntalk]

theorem pClass_listen (ha : a ≠ 31#5) :
    pClass (0b001#3 ++ a) u = if a.toNat = u.val then .listenMe else .other := by
  have hgroup : 0x20 + a.toNat ≠ 0x40 + u.val := by omega
  rw [pClass_of_notBroadcast u (notBroadcast_listen ha), listenByte_toNat, if_neg hgroup]
  simp

theorem pClass_talk (ha : a ≠ 31#5) :
    pClass (0b010#3 ++ a) u = if a.toNat = u.val then .talkMe else .other := by
  have hgroup : 0x40 + a.toNat ≠ 0x20 + u.val := by omega
  rw [pClass_of_notBroadcast u (notBroadcast_talk ha), talkByte_toNat, if_neg hgroup]
  simp

theorem pClass_unlisten : pClass 0x3F#8 u = .unlisten := by
  have hlisten : (0x3F#8 : Byte).toNat ≠ 0x20 + u.val := by simp; omega
  have htalk : (0x3F#8 : Byte).toNat ≠ 0x40 + u.val := by simp; omega
  rw [pClass, if_neg hlisten, if_neg htalk, if_pos rfl]

theorem pClass_untalk : pClass 0x5F#8 u = .untalk := by
  have hlisten : (0x5F#8 : Byte).toNat ≠ 0x20 + u.val := by simp; omega
  have htalk : (0x5F#8 : Byte).toNat ≠ 0x40 + u.val := by simp; omega
  rw [pClass, if_neg hlisten, if_neg htalk, if_neg (by decide), if_pos rfl]

theorem pClass_other (hp : p.toNat < 0x20 ∨ 0x60 ≤ p.toNat) : pClass p u = .other := by
  have hlisten : p.toNat ≠ 0x20 + u.val := by omega
  have htalk : p.toNat ≠ 0x40 + u.val := by omega
  rw [pClass_of_notBroadcast u (notBroadcast_other hp), if_neg hlisten, if_neg htalk]

end primary

/-! ### The secondary bytes (R74, R75) -/

theorem highNibble_nibbles (k : BitVec 4) (c : Channel) : highNibble (k ++ BitVec.ofFin (w := 4) c) = k :=
  BitVec.extractLsb'_append_eq_left

theorem channelOf_nibbles (k : BitVec 4) (c : Channel) : channelOf (k ++ BitVec.ofFin (w := 4) c) = c := by
  apply Fin.ext
  simp only [channelOf, nibbles_toNat]
  omega

theorem nibbles_of_toNat {b : Byte} {k : BitVec 4} {c : Channel} (h : b.toNat = 16 * k.toNat + c.val) :
    b = k ++ BitVec.ofFin (w := 4) c :=
  BitVec.eq_of_toNat_eq (h.trans (nibbles_toNat k c).symm)

/-- The three kinds of secondary byte, each with the operands its row takes. -/
inductive SecondaryByte : Byte → Prop
  | openByte (c : Channel) : SecondaryByte (0xF#4 ++ BitVec.ofFin (w := 4) c)
  | closeByte (c : Channel) : SecondaryByte (0xE#4 ++ BitVec.ofFin (w := 4) c)
  | dataByte (k : BitVec 4) (c : Channel) (hF : k ≠ 0xF#4) (hE : k ≠ 0xE#4) :
      SecondaryByte (k ++ BitVec.ofFin (w := 4) c)

theorem secondaryByte_nibbles (k : BitVec 4) (c : Channel) : SecondaryByte (k ++ BitVec.ofFin (w := 4) c) := by
  by_cases hF : k = 0xF#4
  · exact hF ▸ .openByte c
  by_cases hE : k = 0xE#4
  · exact hE ▸ .closeByte c
  exact .dataByte k c hF hE

/-- The map is complete: the two nibbles tell every byte's kind. -/
theorem secondaryByte (b : Byte) : SecondaryByte b := by
  have hnibbles : b = highNibble b ++ BitVec.ofFin (w := 4) (channelOf b) := by
    apply nibbles_of_toNat
    simp only [highNibble, channelOf, BitVec.extractLsb'_toNat]
    omega
  exact hnibbles ▸ secondaryByte_nibbles _ _

section secondary

variable (u : UnitNo) (c : Channel) {k : BitVec 4}

/-! The decoder, kind by kind. -/

theorem decodeSecondary_open : decodeSecondary u (0xF#4 ++ BitVec.ofFin (w := 4) c) = .openCmd u c := by
  rw [decodeSecondary, highNibble_nibbles, channelOf_nibbles, if_pos rfl]

theorem decodeSecondary_close : decodeSecondary u (0xE#4 ++ BitVec.ofFin (w := 4) c) = .closeCmd u c := by
  rw [decodeSecondary, highNibble_nibbles, channelOf_nibbles, if_neg (by decide), if_pos rfl]

theorem decodeSecondary_data (hF : k ≠ 0xF#4) (hE : k ≠ 0xE#4) :
    decodeSecondary u (k ++ BitVec.ofFin (w := 4) c) = .dataCmd u k c := by
  rw [decodeSecondary, highNibble_nibbles, channelOf_nibbles, if_neg hF, if_neg hE]

/-! The call the byte selects, kind by kind (42_atn_arbitration.md R133). -/

theorem secondaryCall_open : secondaryCall u (0xF#4 ++ BitVec.ofFin (w := 4) c) = .openCall u c := by
  rw [secondaryCall, sClass, highNibble_nibbles, channelOf_nibbles, if_pos rfl]

theorem secondaryCall_close : secondaryCall u (0xE#4 ++ BitVec.ofFin (w := 4) c) = .closeCall u c := by
  rw [secondaryCall, sClass, highNibble_nibbles, channelOf_nibbles, if_neg (by decide), if_pos rfl]

theorem secondaryCall_data (hF : k ≠ 0xF#4) (hE : k ≠ 0xE#4) :
    secondaryCall u (k ++ BitVec.ofFin (w := 4) c) = .channelCommand u c := by
  rw [secondaryCall, sClass, highNibble_nibbles, channelOf_nibbles, if_neg hF, if_neg hE]

end secondary

end Sys2Proof
end

-- ==== Proofs of the encoding family (30_encoding.md): the decoder and the encoder ====
section

namespace Sys2Proof

open Machine

/-! ### The rows with an operand check -/

section wellFormed

variable (u : UnitNo) (a : BitVec 5) (p : Byte) (k : BitVec 4) (c : Channel)

theorem wellFormed_listen : (Instr.listen u a).wellFormed = true ↔ a ≠ 31#5 := bne_iff_ne

theorem wellFormed_talk : (Instr.talk u a).wellFormed = true ↔ a ≠ 31#5 := bne_iff_ne

theorem wellFormed_other : (Instr.other u p).wellFormed = true ↔ p.toNat < 0x20 ∨ 0x60 ≤ p.toNat := by
  simp [Instr.wellFormed]

theorem wellFormed_dataCmd : (Instr.dataCmd u k c).wellFormed = true ↔ k ≠ 0xF#4 ∧ k ≠ 0xE#4 := by
  simp [Instr.wellFormed]

end wellFormed

/-- Settles O3: the rows with an operand in the code by the two address maps, every other row by its own entry in
its format's table. -/
theorem decodeOfEncode : Obligations.DecodeOfEncode := by
  intro i hwf
  cases i with
  | listen u a => exact congrArg Except.ok (decodePrimary_listen u ((wellFormed_listen u a).mp hwf))
  | talk u a => exact congrArg Except.ok (decodePrimary_talk u ((wellFormed_talk u a).mp hwf))
  | other u p => exact congrArg Except.ok (decodePrimary_other u ((wellFormed_other u p).mp hwf))
  | openCmd u c => exact congrArg Except.ok (decodeSecondary_open u c)
  | closeCmd u c => exact congrArg Except.ok (decodeSecondary_close u c)
  | dataCmd u k c =>
    obtain ⟨hF, hE⟩ : k ≠ 0xF#4 ∧ k ≠ 0xE#4 := (wellFormed_dataCmd u k c).mp hwf
    exact congrArg Except.ok (decodeSecondary_data u c hF hE)
  | _ => rfl

/-! ### What each format's decoder answers is well formed -/

section formats

variable {i : Instr} (code : BitVec 8)

theorem decodePrimary_wellFormed (u : UnitNo) (p : Byte) : (decodePrimary u p).wellFormed = true := by
  cases primaryByte p with
  | listen a ha => rwa [decodePrimary_listen u ha, wellFormed_listen]
  | talk a ha => rwa [decodePrimary_talk u ha, wellFormed_talk]
  | unlisten => rfl
  | untalk => rfl
  | other _ hp => rwa [decodePrimary_other u hp, wellFormed_other]

theorem decodeSecondary_wellFormed (u : UnitNo) (b : Byte) : (decodeSecondary u b).wellFormed = true := by
  cases secondaryByte b with
  | openByte c => rw [decodeSecondary_open]; rfl
  | closeByte c => rw [decodeSecondary_close]; rfl
  | dataByte k c hF hE =>
    rw [decodeSecondary_data u c hF hE, wellFormed_dataCmd]
    exact ⟨hF, hE⟩

theorem decodeEvent_wellFormed (x : StepCtx) (h : decodeEvent x code = .ok i) : i.wellFormed = true := by
  unfold decodeEvent at h
  split at h <;> cases h <;> rfl

theorem decodeControl_wellFormed (num : Int) (now : Clock) (h : decodeControl num now code = .ok i) :
    i.wellFormed = true := by
  unfold decodeControl at h
  split at h <;> cases h <;> rfl

theorem decodeFabric_wellFormed (u : UnitNo) (cl dl : Bool) (h : decodeFabric u cl dl code = .ok i) :
    i.wellFormed = true := by
  unfold decodeFabric at h
  split at h <;> cases h <;> rfl

theorem decodeDispatcher_wellFormed (u : UnitNo) (c : Channel) (b : Byte)
    (h : decodeDispatcher u c b code = .ok i) : i.wellFormed = true := by
  unfold decodeDispatcher at h
  split at h <;> cases h <;> rfl

theorem decodeReceive_wellFormed (x : StepCtx) (underAtn : Bool) (h : decodeReceive x underAtn code = .ok i) :
    i.wellFormed = true := by
  cases underAtn <;> unfold decodeReceive at h <;> split at h <;> cases h <;> rfl

theorem decodeTransmit_wellFormed (x : StepCtx) (h : decodeTransmit x code = .ok i) : i.wellFormed = true := by
  unfold decodeTransmit at h
  split at h <;> cases h <;> rfl

end formats

/-- Settles O4: only the two address maps answer a row with an operand check, and each of their rows passes its
own. -/
theorem decodedInstructionsAreWellFormed : Obligations.DecodedInstructionsAreWellFormed := by
  intro w i h
  unfold decode at h
  cases hfmt : w.fmt <;> rw [hfmt] at h
  case p =>
    cases h
    exact decodePrimary_wellFormed _ _
  case s =>
    cases h
    exact decodeSecondary_wellFormed _ _
  case ev => exact decodeEvent_wellFormed _ _ h
  case ctl => exact decodeControl_wellFormed _ _ _ h
  case fab => exact decodeFabric_wellFormed _ _ _ _ h
  case dsp => exact decodeDispatcher_wellFormed _ _ _ _ h
  case rx => exact decodeReceive_wellFormed _ _ _ h
  case tx => exact decodeTransmit_wellFormed _ _ h

/-- Settles O5: the decoder and the unit read each of the five kinds of primary byte alike. -/
theorem primaryMapAgreesWithTheUnit : Obligations.PrimaryMapAgreesWithTheUnit := by
  intro u p
  cases primaryByte p with
  | listen a ha =>
    rw [decodePrimary_listen u ha]
    exact ⟨rfl, listenByte_toNat a, pClass_listen u ha⟩
  | talk a ha =>
    rw [decodePrimary_talk u ha]
    exact ⟨rfl, talkByte_toNat a, pClass_talk u ha⟩
  | unlisten => exact ⟨rfl, rfl, pClass_unlisten u⟩
  | untalk => exact ⟨rfl, rfl, pClass_untalk u⟩
  | other _ hp =>
    rw [decodePrimary_other u hp]
    exact ⟨rfl, rfl, hp, pClass_other u hp⟩

/-- Settles O6: the decoder and the Dispatcher's selection read each of the three kinds of secondary byte alike. -/
theorem secondaryMapSelectsTheCall : Obligations.SecondaryMapSelectsTheCall := by
  intro u b
  cases secondaryByte b with
  | openByte c =>
    rw [decodeSecondary_open]
    exact ⟨rfl, nibbles_toNat _ c, secondaryCall_open u c⟩
  | closeByte c =>
    rw [decodeSecondary_close]
    exact ⟨rfl, nibbles_toNat _ c, secondaryCall_close u c⟩
  | dataByte k c hF hE =>
    rw [decodeSecondary_data u c hF hE]
    have hF' : k.toNat ≠ 0xF := fun h => hF (BitVec.eq_of_toNat_eq h)
    have hE' : k.toNat ≠ 0xE := fun h => hE (BitVec.eq_of_toNat_eq h)
    exact ⟨rfl, nibbles_toNat k c, by omega, secondaryCall_data u c hF hE⟩

/-- Settles O2: each word is evaluated by the decoder. -/
theorem sampleWordsDecode : Obligations.SampleWordsDecode :=
  ⟨rfl, rfl, rfl, rfl, rfl, rfl, rfl, rfl⟩

end Sys2Proof
end

-- ==== Proofs of the encoding family (30_encoding.md): NOP and the secondary rows as instructions ====
section

namespace Sys2Proof.Machine

/-- Settles O16: NOP answers the state it is given. -/
theorem nopDoesNothing : Obligations.NopDoesNothing := fun _ => rfl

section secondaryRows

variable {s : State} {u : UnitNo}

theorem pClass_listenMe {p : Byte} (h : p.toNat = 0x20 + u.val) : pClass p u = .listenMe := if_pos h

theorem pClass_talkMe {p : Byte} (h : p.toNat = 0x40 + u.val) : pClass p u = .talkMe := by
  have hlisten : p.toNat ≠ 0x20 + u.val := by omega
  rw [pClass, if_neg hlisten, if_pos h]

/-- A unit under ATN with its own LISTEN or TALK captured meets the condition of the row whose nibbles are its
secondary byte. -/
theorem hasSecondary_nibbles {k : BitVec 4} {c : Channel} (hu : Stepped s u) (hatn : (s.dev u).atn = true)
    (hcount : (s.dev u).addrCount = 2)
    (hprimary : (s.dev u).primary.toNat = 0x20 + u.val ∨ (s.dev u).primary.toNat = 0x40 + u.val)
    (hsecondary : (s.dev u).secondary.toNat = 16 * k.toNat + c.val) :
    s.hasSecondary u (k ++ BitVec.ofFin (w := 4) c) = true := by
  have hclass : pClass (s.dev u).primary u = .listenMe ∨ pClass (s.dev u).primary u = .talkMe :=
    hprimary.imp pClass_listenMe pClass_talkMe
  simp [State.hasSecondary, active_of_stepped hu, hatn, hcount, nibbles_of_toNat hsecondary, hclass]

theorem exec_openCmd {c : Channel} (h : s.hasSecondary u (0xF#4 ++ BitVec.ofFin (w := 4) c) = true) :
    exec (.openCmd u c) s = .next (s.dispatch (.openCall u c)) :=
  congrArg Host.Outcome.next (if_pos h)

theorem exec_closeCmd {c : Channel} (h : s.hasSecondary u (0xE#4 ++ BitVec.ofFin (w := 4) c) = true) :
    exec (.closeCmd u c) s = .next (s.dispatch (.closeCall u c)) :=
  congrArg Host.Outcome.next (if_pos h)

theorem exec_dataCmd {k : BitVec 4} {c : Channel}
    (h : s.hasSecondary u (k ++ BitVec.ofFin (w := 4) c) = true) :
    exec (.dataCmd u k c) s = .next (s.dispatch (.channelCommand u c)) :=
  congrArg Host.Outcome.next (if_pos h)

/-- All that a row which is a Dispatcher call does: that one call, and its status latched (45_dispatcher.md R198). -/
theorem callMade_of_exec_eq_dispatch {i : Instr} {call : DispCall} (h : exec i s = .next (s.dispatch call)) :
    ∃ t, exec i s = .next t ∧ OneCall call s t ∧
      UnitBecomes call.unit (latched (s.dev call.unit) call.channel (s.answerTo call).status)
        (s.slot call.unit) s t :=
  ⟨_, h, (dispatch_becomes call s).symm⟩

end secondaryRows

/-- Settles O38: the captured byte is the row's own code, so the row makes its call, which latches its status. -/
theorem secondaryRowsMakeTheirCall : Obligations.SecondaryRowsMakeTheirCall := by
  intro s u k c hu hatn hcount hprimary
  exact
    ⟨fun hopen => callMade_of_exec_eq_dispatch
      (exec_openCmd (hasSecondary_nibbles (k := 0xF#4) hu hatn hcount hprimary hopen)),
    fun hclose => callMade_of_exec_eq_dispatch
      (exec_closeCmd (hasSecondary_nibbles (k := 0xE#4) hu hatn hcount hprimary hclose)),
    fun _ hdata => callMade_of_exec_eq_dispatch
      (exec_dataCmd (hasSecondary_nibbles hu hatn hcount hprimary hdata))⟩

end Sys2Proof.Machine
end

-- ==== Proofs of the fabric family (40_bus_fabric.md): the lines and the slot writes ====
section

namespace Sys2Proof.Machine

/-! ### The two lines a slot drives, seen alike (R33, R34, R100) -/

/-- The lines that both the master and a unit's slot can drive. -/
inductive Line where
  | clk | data

/-- The level of the line in a reading of the fabric, `true` = high. -/
def Line.level : Line → Snapshot → Bool
  | .clk  => Snapshot.clk
  | .data => Snapshot.data

/-- A unit's slot drives the line low. -/
def Line.slotLow : Line → Slot → Bool
  | .clk  => Slot.clkLow
  | .data => Slot.dataLow

/-- The master drives the line low. -/
def Line.masterLow : Line → MasterDrive → Bool
  | .clk  => MasterDrive.clkLow
  | .data => MasterDrive.dataLow

theorem inRange_iff {cfg : Config} {u : UnitNo} :
    inRange cfg u = true ↔ cfg.unitMin ≤ u ∧ u ≤ cfg.unitMax := by
  simp [inRange]

theorem level_fabricRead (l : Line) (s : State) :
    l.level s.fabricRead = !(l.masterLow s.m || (unitsOf s.cfg).any fun u => l.slotLow (s.slot u)) := by
  cases l <;> rfl

@[simp] theorem fabricRead_atn (s : State) : s.fabricRead.atn = !s.m.atnLow := rfl

/-- The wired-AND: any one driver pulls the line low (R100, R102). -/
theorem level_fabricRead_eq_false {l : Line} {s : State} :
    l.level s.fabricRead = false ↔
      l.masterLow s.m = true ∨ ∃ u, inRange s.cfg u = true ∧ l.slotLow (s.slot u) = true := by
  rw [level_fabricRead, Bool.not_eq_false', Bool.or_eq_true]
  simp [mem_unitsOf]

/-- The line is high when nobody drives it. -/
theorem level_fabricRead_eq_true {l : Line} {s : State} :
    l.level s.fabricRead = true ↔
      l.masterLow s.m = false ∧ ∀ u, inRange s.cfg u = true → l.slotLow (s.slot u) = false := by
  simp [level_fabricRead, mem_unitsOf]

/-- Settles O11: the latch takes the composite of both lines, and the master's ATN. -/
theorem fabricReadIsWiredAnd : Obligations.FabricReadIsWiredAnd := by
  intro s
  have hline (l : Line) : l.level s.fabricRead = false ↔ l.masterLow s.m = true ∨
      ∃ u, s.cfg.unitMin ≤ u ∧ u ≤ s.cfg.unitMax ∧ l.slotLow (s.slot u) = true := by
    simp only [level_fabricRead_eq_false, inRange_iff, and_assoc]
  exact ⟨{ s with readout := s.fabricRead }, rfl, rfl, hline .clk, hline .data, by simp⟩

/-! ### The slot write, issued by itself (R101) -/

theorem exec_fwrite_of_inRange {s : State} {u : UnitNo} (hu : inRange s.cfg u = true) (cl dl : Bool) :
    exec (.fwrite u cl dl) s = .next (s.fabricWrite u cl dl) :=
  congrArg Host.Outcome.next (if_pos hu)

theorem exec_fwrite_of_not_inRange {s : State} {u : UnitNo} (hu : inRange s.cfg u = false) (cl dl : Bool) :
    exec (.fwrite u cl dl) s = .next s :=
  congrArg Host.Outcome.next (if_neg (Bool.eq_false_iff.mp hu))

/-- Settles O12: in range the row is the slot write, out of range it is nothing. -/
theorem fabricWriteReplacesOneSlot : Obligations.FabricWriteReplacesOneSlot := by
  intro s u cl dl
  cases hu : inRange s.cfg u
  · exact ⟨s, exec_fwrite_of_not_inRange hu cl dl, fun h => absurd h (by decide), fun _ => rfl⟩
  · exact ⟨_, exec_fwrite_of_inRange hu cl dl, fun _ => fabricWrite_becomes u cl dl s,
      fun h => absurd h (by decide)⟩

/-- Settles O14: the two writes set different entries of the slot vector. -/
theorem slotWriteOrderIsImmaterial : Obligations.SlotWriteOrderIsImmaterial := by
  intro s u v a b c d huv
  have hval : u.val ≠ v.val := Fin.val_ne_of_ne huv
  exact congrArg (fun slots => { s with slots }) (Vector.set_comm _ _ hval)

/-! ### The last driver to let go (R102 (a)) -/

/-- While another unit of the block drives the line, a release leaves it low. -/
theorem level_release_of_other_driver {l : Line} {s : State} {u v : UnitNo} (huv : u ≠ v)
    (hv : inRange s.cfg v = true) (hdrive : l.slotLow (s.slot v) = true) :
    l.level (s.fabricWrite u false false).fabricRead = false :=
  level_fabricRead_eq_false.mpr
    (.inr ⟨v, hv, by rw [State.slot_fabricWrite_of_ne s u v false false huv.symm]; exact hdrive⟩)

/-- A release affects its own slot alone. -/
theorem slotLow_release (l : Line) (s : State) (u w : UnitNo) :
    l.slotLow ((s.fabricWrite u false false).slot w) = false ↔ w ≠ u → l.slotLow (s.slot w) = false := by
  by_cases hw : w = u
  · subst hw
    cases l <;> simp [Line.slotLow]
  · simp [State.slot_fabricWrite_of_ne s u w false false hw, hw]

/-- After both releases the line is high iff neither the master nor a third unit drives it. -/
theorem level_release_both (l : Line) (s : State) (u v : UnitNo) :
    l.level ((s.fabricWrite u false false).fabricWrite v false false).fabricRead = true ↔
      l.masterLow s.m = false ∧
        ∀ w, inRange s.cfg w = true → w ≠ u → w ≠ v → l.slotLow (s.slot w) = false := by
  simp only [level_fabricRead_eq_true, slotLow_release, State.fabricWrite_m, State.fabricWrite_cfg]
  exact and_congr_right' (forall₂_congr fun _ _ => imp.swap)

/-- Settles O13: one argument for both lines, with the two releases as slot writes. -/
theorem lastDriverReleasesTheLine : Obligations.LastDriverReleasesTheLine := by
  intro s u v hu hv huv
  have hstays (l : Line) := level_release_of_other_driver (l := l) huv hv
  have hlast (l : Line) := level_release_both l s u v
  have hv' : inRange (s.fabricWrite u false false).cfg v = true := hv
  exact ⟨_, _, exec_fwrite_of_inRange hu false false, exec_fwrite_of_inRange hv' false false,
    fun _ hdrive => ⟨hstays .data hdrive, hlast .data⟩, fun _ hdrive => ⟨hstays .clk hdrive, hlast .clk⟩⟩

end Sys2Proof.Machine
end

-- ==== Proofs of the fabric family (40_bus_fabric.md): what no instruction changes ====
section

set_option Elab.async false

namespace Sys2Proof.Machine

/-! ### A phase row issued by itself is a run of operations on its unit -/

section rows

variable {u : UnitNo} {now : Clock} {s : State}

theorem UnitRun.ite {c : Prop} [Decidable c] {t r : State} (ht : UnitRun u now s t) (hr : UnitRun u now s r) :
    UnitRun u now s (if c then t else r) := by
  split
  exacts [ht, hr]

/-- The row acts by its body or not at all. -/
theorem rowStep_run {x : StepCtx} {sel : Bool} {body : State → State} {s t : State}
    (h : rowStep x sel body s = .next t) (hbody : UnitRun x.unit x.now s (body s)) :
    UnitRun x.unit x.now s t := by
  obtain ⟨-, -, rfl⟩ | ⟨-, rfl⟩ := rowStep_cases h
  exacts [hbody, .refl]

variable (S : Snapshot)

theorem rxPre0_run : UnitRun u now s (rxPre0 u now s) := .ite (.setPhase .refl) .refl

theorem rxPre1_run : UnitRun u now s (rxPre1 u S now s) := .ite (.setPhase (.fabricWrite .refl)) .refl

theorem rxEoi_run : UnitRun u now s (rxEoi u now s) := .ite (.setPhase (.fabricWrite .refl)) .refl

theorem rxEoiw_run : UnitRun u now s (rxEoiw u S now s) := .ite (.setPhase (.updDev .refl)) .refl

theorem rxSample_run (n : Fin 8) : UnitRun u now s (rxSample n u S now s) := .ite (.setPhase (.updDev .refl)) .refl

theorem rxAdvance_run (n : Fin 8) : UnitRun u now s (rxAdvance n u S now s) :=
  .ite (.setPhase (.updDev .refl)) .refl

theorem rxCompleteAtn_run : UnitRun u now s (rxCompleteAtn u S now s) := .ite (byteDoneAtn_run u now s) .refl

theorem rxCompleteListen_run : UnitRun u now s (rxCompleteListen u S now s) :=
  .ite (byteDoneListen_run u now s) .refl

theorem txPre0_run : UnitRun u now s (txPre0 u S now s) := .ite (.setPhase (.fabricWrite .refl)) .refl

theorem txPre1_run : UnitRun u now s (txPre1 u now s) := .ite (.setPhase (.fabricWrite .refl)) .refl

theorem txEoi_run : UnitRun u now s (txEoi u S now s) := .ite (.setPhase .refl) .refl

theorem txEoiw_run : UnitRun u now s (txEoiw u S now s) := .ite (.setPhase (.updDev .refl)) .refl

theorem txSetup_run (n : Fin 8) : UnitRun u now s (txSetup n u now s) :=
  .ite (.setPhase (.fabricWrite .refl)) .refl

theorem txDone0_run : UnitRun u now s (txDone0 u now s) := .ite (.setPhase (.fabricWrite .refl)) .refl

theorem txRetry0_run : UnitRun u now s (txRetry0 u now s) := .ite (.setPhase (.fabricWrite .refl)) .refl

theorem txRetry1_run : UnitRun u now s (txRetry1 u now s) :=
  .ite (.setPhase (.updDev (.fabricWrite .refl))) .refl

end rows

/-! ### The configuration record and the inputs -/

/-- From `s` to `t` neither the configuration record, nor the master's drive, nor the port changed. -/
structure KeepsInputs (s t : State) : Prop where
  cfg : t.cfg = s.cfg
  m : t.m = s.m
  port : t.port = s.port

section operations

variable {s t : State}

theorem KeepsInputs.refl (s : State) : KeepsInputs s s := ⟨rfl, rfl, rfl⟩

theorem KeepsInputs.trans {r : State} (h : KeepsInputs s t) (k : KeepsInputs t r) : KeepsInputs s r :=
  ⟨k.cfg.trans h.cfg, k.m.trans h.m, k.port.trans h.port⟩

theorem KeepsInputs.ite {c : Prop} [Decidable c] {r : State} (ht : KeepsInputs s t) (hr : KeepsInputs s r) :
    KeepsInputs s (if c then t else r) := by
  split
  exacts [ht, hr]

theorem KeepsInputs.foldl {f : State → UnitNo → State} (hf : ∀ t u, KeepsInputs t (f t u)) (us : List UnitNo)
    (s : State) : KeepsInputs s (us.foldl f s) := by
  induction us generalizing s with
  | nil => exact .refl s
  | cons u us ih => exact (hf s u).trans (ih _)

theorem OnlyUnit.keepsInputs {u : UnitNo} (h : OnlyUnit u s t) : KeepsInputs s t := by
  obtain ⟨hcfg, -, hm, hport, -⟩ := h
  exact ⟨hcfg, hm, hport⟩

theorem OnlyUnits.keepsInputs {us : List UnitNo} (h : OnlyUnits us s t) : KeepsInputs s t := by
  rw [h.frame]
  exact ⟨rfl, rfl, rfl⟩

theorem initOnce_keepsInputs (s : State) : KeepsInputs s (initOnce s) := by
  have hrelease := KeepsInputs.foldl (fun t u => (OnlyUnit.fabricWrite u false false t).keepsInputs)
    (unitsOf s.cfg) s
  exact .ite (.refl s) ⟨hrelease.cfg, hrelease.m, hrelease.port⟩

theorem execEnable_keepsInputs {i : Int} (h : execEnable i s = .next t) : KeepsInputs s t := by
  have hinit := initOnce_keepsInputs s
  unfold execEnable at h
  split at h
  · cases h
    exact ⟨rfl, rfl, rfl⟩
  · next u _ =>
    have hclear := hinit.trans (clearUnit_becomes u (initOnce s)).1.1.keepsInputs
    dsimp only at h
    split at h
    · cases h
      exact ⟨hinit.cfg, hinit.m, hinit.port⟩
    · cases h
      exact ⟨hclear.cfg, hclear.m, hclear.port⟩

theorem execDisable_keepsInputs {i : Int} (h : execDisable i s = .next t) : KeepsInputs s t := by
  unfold execDisable at h
  split at h
  · cases h
    exact .refl s
  · next u _ =>
    split at h
    · cases h
      exact (disable_becomes u s).1.1.keepsInputs
    · cases h
      exact .refl s

theorem execReset_keepsInputs (h : execReset s = .next t) : KeepsInputs s t := by
  cases h
  exact .foldl (fun t u => .ite (clearUnit_becomes u t).1.1.keepsInputs (.refl t)) _ s

theorem execExec_keepsInputs {now : Clock} (h : execExec now s = .next t) : KeepsInputs s t := by
  obtain ⟨-, rfl⟩ | ⟨-, -, rfl⟩ := execExec_cases h
  · exact ⟨rfl, rfl, rfl⟩
  · have hsteps := (stepUnits_onlyUnits s.fabricRead now (unitsOf s.cfg) s).keepsInputs
    exact ⟨hsteps.cfg, hsteps.m, hsteps.port⟩

theorem callAtPort_keepsInputs (call : DispCall) (s : State) : KeepsInputs s (callAtPort call s) :=
  .ite (OnlyUnit.dispatch call s).keepsInputs (.refl s)

theorem cmdNone_keepsInputs (u : UnitNo) (s : State) : KeepsInputs s (cmdNone u s) :=
  (cmdNone_becomes u s).1.1.keepsInputs

theorem rowStep_keepsInputs {x : StepCtx} {sel : Bool} {body : State → State}
    (h : rowStep x sel body s = .next t) (hbody : UnitRun x.unit x.now s (body s)) : KeepsInputs s t :=
  (rowStep_run h hbody).onlyUnit.keepsInputs

/-- The rows of the receive and transmit formats and the two edges touch one unit, the commands and calls one unit
and the Dispatcher's side, the controller's operations the units and the model's latches. -/
theorem exec_keepsInputs {i : Instr} (h : exec i s = .next t) : KeepsInputs s t := by
  cases i with
  | listen u a =>
    cases h
    exact .ite (.ite (cmdListen_onlyUnit u s).keepsInputs (cmdNone_keepsInputs u s)) (.refl s)
  | talk u a =>
    cases h
    exact .ite (.ite (cmdTalk_onlyUnit u s).keepsInputs (cmdNone_keepsInputs u s)) (.refl s)
  | unlisten u => cases h; exact .ite (cmdUnlisten_onlyUnit u s).keepsInputs (.refl s)
  | untalk u => cases h; exact .ite (cmdUntalk_onlyUnit u s).keepsInputs (.refl s)
  | other u p => cases h; exact .ite (cmdNone_keepsInputs u s) (.refl s)
  | openCmd u c | closeCmd u c | dataCmd u k c =>
    cases h; exact .ite (OnlyUnit.dispatch _ s).keepsInputs (.refl s)
  | nop => cases h; exact .refl s
  | init => cases h; exact initOnce_keepsInputs s
  | enable i => exact execEnable_keepsInputs h
  | disable i => exact execDisable_keepsInputs h
  | reset => exact execReset_keepsInputs h
  | exec now => exact execExec_keepsInputs h
  | fread => cases h; exact ⟨rfl, rfl, rfl⟩
  | fwrite u cl dl => cases h; exact .ite (OnlyUnit.fabricWrite u cl dl s).keepsInputs (.refl s)
  | dispOpen | dispClose | dispChannelCommand | dispWrite | dispRead | dispUnlisten | dispUntalk =>
    cases h; exact callAtPort_keepsInputs _ s
  | atnFall x => exact rowStep_keepsInputs h (atnEntry_run _ _ s)
  | atnRise x => exact rowStep_keepsInputs h (atnReturn_run _ _ s)
  | rxPre0 x => exact rowStep_keepsInputs h rxPre0_run
  | rxPre1 x => exact rowStep_keepsInputs h (rxPre1_run _)
  | rxReady x => exact rowStep_keepsInputs h (rxReady_run _ _ s _ _)
  | rxEoi x => exact rowStep_keepsInputs h rxEoi_run
  | rxEoiw x => exact rowStep_keepsInputs h (rxEoiw_run _)
  | rxBit0 x | rxBit1 x | rxBit2 x | rxBit3 x | rxBit4 x | rxBit5 x | rxBit6 x | rxBit7 x =>
    exact rowStep_keepsInputs h (rxSample_run _ _)
  | rxBitw0 x | rxBitw1 x | rxBitw2 x | rxBitw3 x | rxBitw4 x | rxBitw5 x | rxBitw6 x =>
    exact rowStep_keepsInputs h (rxAdvance_run _ _)
  | rxBitw7Atn x => exact rowStep_keepsInputs h (rxCompleteAtn_run _)
  | rxBitw7Listen x => exact rowStep_keepsInputs h (rxCompleteListen_run _)
  | rxDone0 x | rxDone1 x | rxRetry0 x | rxRetry1 x => exact rowStep_keepsInputs h .refl
  | txPre0 x => exact rowStep_keepsInputs h (txPre0_run _)
  | txPre1 x => exact rowStep_keepsInputs h txPre1_run
  | txReady x => exact rowStep_keepsInputs h (txReady_run _ _ s _)
  | txEoi x => exact rowStep_keepsInputs h (txEoi_run _)
  | txEoiw x => exact rowStep_keepsInputs h (txEoiw_run _)
  | txBit0 x | txBit1 x | txBit2 x | txBit3 x | txBit4 x | txBit5 x | txBit6 x | txBit7 x =>
    exact rowStep_keepsInputs h (txSetup_run _)
  | txBitw0 x | txBitw1 x | txBitw2 x | txBitw3 x | txBitw4 x | txBitw5 x | txBitw6 x | txBitw7 x =>
    exact rowStep_keepsInputs h (txValid_run _ _ s _)
  | txDone0 x => exact rowStep_keepsInputs h txDone0_run
  | txDone1 x => exact rowStep_keepsInputs h (txDone1_run _ _ s _)
  | txRetry0 x => exact rowStep_keepsInputs h txRetry0_run
  | txRetry1 x => exact rowStep_keepsInputs h txRetry1_run

end operations

/-- Settles O15: every instruction keeps the inputs, and the ATN level is read off the master's drive alone. -/
theorem noInstructionTouchesConfigOrMaster : Obligations.NoInstructionTouchesConfigOrMaster := by
  intro i s t h
  obtain ⟨hcfg, hm, hport⟩ := exec_keepsInputs h
  exact ⟨hcfg, hm, hport, by simp [hm], by simp [hm]⟩

end Sys2Proof.Machine
end

-- ==== Proofs of the controller family (41_device_controller.md): the step, INIT, ENABLE, DISABLE, RESET and EXEC ====
section

namespace Sys2Proof.Machine

/-! ### One step of the port (R110) -/

theorem step_of_decode_ok {s : State} {i : Instr} (h : decode (fetch s).1 = .ok i) :
    step s = exec i (fetch s).2 := by
  rw [step, h]

theorem step_of_decode_error {s : State} {err : DecodeError} (h : decode (fetch s).1 = .error err) :
    step s = .refused (.noInstruction err) := by
  rw [step, h]

theorem decode_idleWord : decode idleWord = .ok .nop := rfl

/-- Settles O1: an empty port answers with NOP's word, and an entry with its own word and drive. -/
theorem stepRunsTheNextOperation : Obligations.StepRunsTheNextOperation := by
  intro s
  refine ⟨fun hempty => ?_, fun e rest hport => ⟨fun i hi => ?_, fun err herr => ?_⟩⟩
  · have hfetch := fetch_nil hempty
    rw [step_of_decode_ok (by rw [hfetch]; exact decode_idleWord), hfetch]
    exact nopDoesNothing s
  · have hfetch := fetch_cons hport
    rw [step_of_decode_ok (by rw [hfetch]; exact hi), hfetch]
  · exact step_of_decode_error (by rw [fetch_cons hport]; exact herr)

/-! ### The unit operand (R112, R114) -/

theorem unitOperand_eq_none {cfg : Config} {i : Int} :
    unitOperand cfg i = none ↔ i < (cfg.unitMin.val : Int) ∨ (cfg.unitMax.val : Int) < i := by
  simp only [unitOperand, dite_eq_right_iff, reduceCtorEq, imp_false]
  omega

/-! ### The release of the slots and `init` (R111) -/

/-- The release loop leaves all but the slots. -/
theorem foldl_release_frame (us : List UnitNo) (s : State) :
    us.foldl (fun t u => t.fabricWrite u false false) s =
      { s with slots := (us.foldl (fun t u => t.fabricWrite u false false) s).slots } := by
  induction us generalizing s with
  | nil => rfl
  | cons u us ih => exact ih _

theorem foldl_release_slot (us : List UnitNo) (s : State) (v : UnitNo) :
    (us.foldl (fun t u => t.fabricWrite u false false) s).slot v =
      if v ∈ us then ⟨false, false⟩ else s.slot v := by
  induction us generalizing s with
  | nil => rfl
  | cons u us ih =>
    rw [List.foldl_cons, ih, State.slot_fabricWrite]
    by_cases hv : v = u <;> simp [hv]

theorem initOnce_of_initialized {s : State} (hi : s.initialized = true) : initOnce s = s := if_pos hi

theorem initOnce_of_not_initialized {s : State} (hi : s.initialized = false) :
    initOnce s =
      { (unitsOf s.cfg).foldl (fun t u => t.fabricWrite u false false) s with initialized := true } :=
  if_neg (Bool.eq_false_iff.mp hi)

/-- `init` touches the lifecycle bit and the slots, and no DeviceState. -/
theorem initOnce_frame (s : State) :
    initOnce s = { s with initialized := true, slots := (initOnce s).slots } := by
  cases hi : s.initialized
  · rw [initOnce_of_not_initialized hi]
    exact congrArg (fun t : State => { t with initialized := true }) (foldl_release_frame (unitsOf s.cfg) s)
  · rw [initOnce_of_initialized hi, ← hi]

/-- The first `init` releases the slots of the block, a later one none. -/
theorem initOnce_slot (s : State) (v : UnitNo) :
    (initOnce s).slot v =
      if s.initialized = false ∧ inRange s.cfg v = true then ⟨false, false⟩ else s.slot v := by
  cases hi : s.initialized
  · rw [initOnce_of_not_initialized hi]
    exact (foldl_release_slot (unitsOf s.cfg) s v).trans (by simp [mem_unitsOf])
  · simp [initOnce_of_initialized hi]

@[simp] theorem initOnce_dev (s : State) (v : UnitNo) : (initOnce s).dev v = s.dev v := by
  rw [initOnce_frame]
  rfl

theorem exec_init (s : State) : exec .init s = .next (initOnce s) := rfl

/-- Settles O17: the lifecycle bit decides between nothing and the release of every slot. -/
theorem initReleasesEverySlotOnce : Obligations.InitReleasesEverySlotOnce := by
  intro s
  refine ⟨fun hi => ?_, fun hi => ⟨_, exec_init s, initOnce_frame s, fun u => ?_⟩⟩
  · rw [exec_init, initOnce_of_initialized hi]
  · simpa [hi] using initOnce_slot s u

/-! ### `enable` (R112, R113) -/

theorem exec_enable (i : Int) (s : State) : exec (.enable i) s = execEnable i s := rfl

section enable

variable {s : State} {i : Int} {u : UnitNo}

theorem exec_enable_of_not_inRange (h : unitOperand s.cfg i = none) :
    exec (.enable i) s = .next { s with enableResult := some .errRange } := by
  rw [exec_enable, execEnable, h]

theorem exec_enable_of_enabled (h : unitOperand s.cfg i = some u) (he : (s.dev u).enabled = true) :
    exec (.enable i) s = .next { initOnce s with enableResult := some .errAlready } := by
  rw [exec_enable, execEnable, h]
  exact if_pos (by rw [initOnce_dev]; exact he)

theorem exec_enable_of_disabled (h : unitOperand s.cfg i = some u) (he : (s.dev u).enabled = false) :
    exec (.enable i) s = .next { clearUnit (initOnce s) u with enableResult := some .ok } := by
  rw [exec_enable, execEnable, h]
  exact if_neg (by rw [initOnce_dev, he]; exact Bool.false_ne_true)

end enable

/-- Settles O18: what `enable` leaves is `init` followed by the clearing of its unit. -/
theorem enableRejectsOrClears : Obligations.EnableRejectsOrClears := by
  intro s i
  refine ⟨fun hout => exec_enable_of_not_inRange (unitOperand_eq_none.mpr hout), fun u hui hu => ?_⟩
  have hsome : unitOperand s.cfg i = some u := unitOperand_eq_some.mpr ⟨hu, hui⟩
  refine ⟨fun he hi => ?_, fun he => ⟨_, exec_enable_of_disabled hsome he, ?_, ?_⟩⟩
  · rw [exec_enable_of_enabled hsome he, initOnce_of_initialized hi]
  · exact congrArg (fun t : State =>
      { t with devs := (clearUnit (initOnce s) u).devs, slots := (clearUnit (initOnce s) u).slots,
               enableResult := some .ok }) (initOnce_frame s)
  · obtain ⟨⟨⟨-, -, -, -, -, -, -, hothers⟩, hdev, hslot⟩, -⟩ := clearUnit_becomes u (initOnce s)
    refine ⟨hdev, hslot, fun v hv => ?_⟩
    obtain ⟨hvdev, hvslot⟩ := hothers v hv
    exact ⟨hvdev.trans (initOnce_dev s v), hvslot.trans (initOnce_slot s v)⟩

/-! ### `disable` (R114) -/

theorem exec_disable (i : Int) (s : State) : exec (.disable i) s = execDisable i s := rfl

section disable

variable {s : State} {i : Int} {u : UnitNo}

theorem exec_disable_of_not_inRange (h : unitOperand s.cfg i = none) : exec (.disable i) s = .next s := by
  rw [exec_disable, execDisable, h]

theorem exec_disable_of_disabled (h : unitOperand s.cfg i = some u) (he : (s.dev u).enabled = false) :
    exec (.disable i) s = .next s := by
  rw [exec_disable, execDisable, h]
  exact if_neg (Bool.eq_false_iff.mp he)

theorem exec_disable_of_enabled (h : unitOperand s.cfg i = some u) (he : (s.dev u).enabled = true) :
    ∃ t, exec (.disable i) s = .next t ∧
      QuietlyBecomes u
        { s.dev u with enabled := false, atn := false, listening := false, talking := false, phase := .pre0 }
        ⟨false, false⟩ s t := by
  refine ⟨_, ?_, disable_becomes u s⟩
  rw [exec_disable, execDisable, h]
  exact if_pos he

/-- After a `disable` the operand names no unit or a disabled one, so that a second one changes nothing (P3). -/
theorem exec_disable_idempotent {t : State} (h : exec (.disable i) s = .next t) :
    exec (.disable i) t = .next t := by
  cases hop : unitOperand s.cfg i with
  | none =>
    obtain rfl : s = t := by simpa [exec_disable_of_not_inRange hop] using h
    exact h
  | some u =>
    cases he : (s.dev u).enabled
    · obtain rfl : s = t := by simpa [exec_disable_of_disabled hop he] using h
      exact h
    · obtain ⟨r, hr, ⟨⟨hcfg, -⟩, hdev, -⟩, -⟩ := exec_disable_of_enabled hop he
      obtain rfl : r = t := by simpa [hr] using h
      exact exec_disable_of_disabled (by rw [hcfg]; exact hop) (by rw [hdev])

end disable

/-- Settles O19: one case per answer of the operand and the flag; the second `disable` finds neither to act on. -/
theorem disableReleasesAndIsIdempotent : Obligations.DisableReleasesAndIsIdempotent := by
  intro s i
  refine ⟨fun hout => exec_disable_of_not_inRange (unitOperand_eq_none.mpr hout), fun u hui hu => ?_,
    fun t ht => exec_disable_idempotent ht⟩
  have hsome : unitOperand s.cfg i = some u := unitOperand_eq_some.mpr ⟨hu, hui⟩
  exact ⟨exec_disable_of_disabled hsome, exec_disable_of_enabled hsome⟩

/-! ### `reset` (R115) -/

/-- One round of the loop of `reset`. -/
def clearIfEnabled (s : State) (u : UnitNo) : State := if (s.dev u).enabled then clearUnit s u else s

theorem exec_reset (s : State) : exec .reset s = .next ((unitsOf s.cfg).foldl clearIfEnabled s) := rfl

theorem clearIfEnabled_frame (s : State) (u : UnitNo) :
    clearIfEnabled s u =
      { s with devs := (clearIfEnabled s u).devs, slots := (clearIfEnabled s u).slots } := by
  unfold clearIfEnabled
  split <;> rfl

theorem foldl_clearIfEnabled_frame (us : List UnitNo) (s : State) :
    us.foldl clearIfEnabled s =
      { s with devs := (us.foldl clearIfEnabled s).devs, slots := (us.foldl clearIfEnabled s).slots } := by
  induction us generalizing s with
  | nil => rfl
  | cons u us ih =>
    rw [List.foldl_cons]
    exact (ih _).trans (congrArg (fun t : State =>
      { t with devs := (us.foldl clearIfEnabled (clearIfEnabled s u)).devs,
               slots := (us.foldl clearIfEnabled (clearIfEnabled s u)).slots }) (clearIfEnabled_frame s u))

/-- Unit `v` was cleared and released if `c`, and is as before if not. -/
def ClearedIff (c : Prop) (v : UnitNo) (s t : State) : Prop :=
  (c → t.dev v = clearedDevice ∧ t.slot v = ⟨false, false⟩) ∧
  (¬ c → t.dev v = s.dev v ∧ t.slot v = s.slot v)

theorem clearIfEnabled_clearedIff (s : State) (u v : UnitNo) :
    ClearedIff (v = u ∧ (s.dev v).enabled = true) v s (clearIfEnabled s u) := by
  obtain ⟨⟨⟨-, -, -, -, -, -, -, hothers⟩, hdev, hslot⟩, -⟩ := clearUnit_becomes u s
  unfold clearIfEnabled
  split
  · next he =>
    refine ⟨?_, fun hn => hothers v fun hv => hn ⟨hv, hv ▸ he⟩⟩
    rintro ⟨rfl, -⟩
    exact ⟨hdev, hslot⟩
  · next he =>
    refine ⟨?_, fun _ => ⟨rfl, rfl⟩⟩
    rintro ⟨rfl, he'⟩
    exact absurd he' he

/-- A cleared unit stays enabled and a unit passed over keeps its flag, so every round decides by the flag in `s`. -/
theorem clearIfEnabled_enabled (s : State) (u v : UnitNo) :
    ((clearIfEnabled s u).dev v).enabled = (s.dev v).enabled := by
  obtain ⟨hcleared, hkept⟩ := clearIfEnabled_clearedIff s u v
  by_cases h : v = u ∧ (s.dev v).enabled = true
  · rw [(hcleared h).1, h.2]
    rfl
  · rw [(hkept h).1]

theorem foldl_clearIfEnabled_clearedIff (us : List UnitNo) (s : State) (v : UnitNo) :
    ClearedIff (v ∈ us ∧ (s.dev v).enabled = true) v s (us.foldl clearIfEnabled s) := by
  induction us generalizing s with
  | nil => exact ⟨fun h => absurd h.1 List.not_mem_nil, fun _ => ⟨rfl, rfl⟩⟩
  | cons u us ih =>
    obtain ⟨hcleared, hkept⟩ := clearIfEnabled_clearedIff s u v
    obtain ⟨hrest, hrestKept⟩ := ih (clearIfEnabled s u)
    rw [clearIfEnabled_enabled] at hrest hrestKept
    rw [List.foldl_cons]
    by_cases hlater : v ∈ us ∧ (s.dev v).enabled = true
    · exact ⟨fun _ => hrest hlater, fun hn => absurd ⟨.tail _ hlater.1, hlater.2⟩ hn⟩
    · obtain ⟨hdev, hslot⟩ := hrestKept hlater
      have hiff : v ∈ u :: us ∧ (s.dev v).enabled = true ↔ v = u ∧ (s.dev v).enabled = true := by
        rw [List.mem_cons, or_and_right, or_iff_left hlater]
      rw [hiff]
      unfold ClearedIff
      rw [hdev, hslot]
      exact ⟨hcleared, hkept⟩

/-- Settles O20: the loop over the units of the block clears exactly the stepped ones. -/
theorem resetClearsEnabledUnits : Obligations.ResetClearsEnabledUnits := by
  intro s
  refine ⟨_, exec_reset s, foldl_clearIfEnabled_frame (unitsOf s.cfg) s, fun u => ?_⟩
  rw [stepped_iff]
  exact foldl_clearIfEnabled_clearedIff (unitsOf s.cfg) s u

/-! ### `exec` without a step of the units (R117, R240, R245) -/

theorem exec_exec (now : Clock) (s : State) : exec (.exec now) s = execExec now s := rfl

theorem exec_exec_of_not_initialized {s : State} (hi : s.initialized = false) (now : Clock) :
    exec (.exec now) s = .next { s with lastNow := some now } :=
  if_neg (Bool.eq_false_iff.mp hi)

theorem exec_exec_of_clockBack {s : State} {now p : Clock} (hi : s.initialized = true)
    (hc : s.clockBack now = some p) : exec (.exec now) s = .refused (.clockDecreased p now) := by
  rw [exec_exec, execExec, if_pos hi, hc]

/-- Settles O22: the lifecycle bit is tested first, then the clock. -/
theorem execBeforeInitAndBackwardClock : Obligations.ExecBeforeInitAndBackwardClock := by
  intro s now
  exact ⟨fun hi => exec_exec_of_not_initialized hi now, fun p hi hw hl hlt =>
    exec_exec_of_clockBack hi (clockBack_eq_some.mpr ⟨hw, hl, hlt⟩)⟩

end Sys2Proof.Machine
end

-- ==== Proofs of the ATN family (42_atn_arbitration.md): the commands and the two edges ====
section

namespace Sys2Proof.Machine

section becomes

variable {u : UnitNo} {call : DispCall} {d d' : DeviceState} {w w' : Slot} {s t r : State}

/-! ### Changes of one unit compose -/

theorem UnitBecomes.trans (h : UnitBecomes u d w s t) (k : UnitBecomes u d' w' t r) : UnitBecomes u d' w' s r :=
  ⟨h.1.trans k.1, k.2⟩

theorem QuietlyBecomes.trans (h : QuietlyBecomes u d w s t) (k : QuietlyBecomes u d' w' t r) :
    QuietlyBecomes u d' w' s r :=
  ⟨h.1.trans k.1, h.2.trans k.2⟩

/-- From `s` to `t` unit `u` made the call `call` and went to the slot `w` and the DeviceState `d`, in which the
answer's status is latched. -/
def UnitCalls (u : UnitNo) (call : DispCall) (d : DeviceState) (w : Slot) (s t : State) : Prop :=
  OneCall call s t ∧ UnitBecomes u (latched d call.channel (s.answerTo call).status) w s t

theorem dispatch_calls (hu : call.unit = u) : UnitCalls u call (s.dev u) (s.slot u) s (s.dispatch call) :=
  hu ▸ (dispatch_becomes call s).symm

/-- The Dispatcher's answer depends on its own side and the calling unit's status table, so an assignment that keeps
the table may stand before the call. -/
theorem answerTo_updDev {f : DeviceState → DeviceState} (hf : (f (s.dev u)).status = (s.dev u).status) :
    (s.updDev u f).answerTo call = s.answerTo call := by
  have hstatus : ((s.updDev u f).dev call.unit).status = (s.dev call.unit).status := by
    rw [State.dev_updDev]
    split
    · next hu => rw [hf, hu]
    · rfl
  simp only [State.answerTo, State.updDev_answers, State.updDev_calls, hstatus]

theorem UnitCalls.of_updDev {f : DeviceState → DeviceState} (hf : (f (s.dev u)).status = (s.dev u).status)
    (h : UnitCalls u call d w (s.updDev u f) t) : UnitCalls u call d w s t := by
  obtain ⟨hone, hbecomes⟩ := h
  rw [answerTo_updDev hf] at hbecomes
  exact ⟨hone.of_updDev hf, (updDev_becomes u f s).1.trans hbecomes⟩

theorem QuietlyBecomes.of_updDev {f : DeviceState → DeviceState} (h : QuietlyBecomes u d w (s.updDev u f) t) :
    QuietlyBecomes u d w s t :=
  (updDev_becomes u f s).trans h

end becomes

/-! ### What each command does (R131 to R136) -/

section commands

variable {u : UnitNo} {d : DeviceState} {s : State}

theorem dispatchSecondary_calls (hcount : (s.dev u).addrCount = 2) :
    UnitCalls u (secondaryCall u (s.dev u).secondary) (s.dev u) (s.slot u) s (dispatchSecondary u s) := by
  rw [dispatchSecondary, if_pos hcount]
  exact dispatch_calls (secondaryCall_unit u _)

theorem dispatchSecondary_of_ne (hcount : (s.dev u).addrCount ≠ 2) : dispatchSecondary u s = s := if_neg hcount

/-- An assignment of the role flags, then the call of the secondary byte (R131, R132, R133). -/
theorem assignThenSecondary_calls {f : DeviceState → DeviceState} (hd : f (s.dev u) = d)
    (hstatus : d.status = (s.dev u).status) (hcount : d.addrCount = 2) :
    UnitCalls u (secondaryCall u d.secondary) d (s.slot u) s (dispatchSecondary u (s.updDev u f)) := by
  have hdev : (s.updDev u f).dev u = d := by rw [State.dev_updDev_self, hd]
  have hcalls := dispatchSecondary_calls (s := s.updDev u f) (u := u) (by rw [hdev, hcount])
  rw [hdev] at hcalls
  exact hcalls.of_updDev (by rw [hd, hstatus])

theorem assignThenSecondary_quiet {f : DeviceState → DeviceState} (hd : f (s.dev u) = d)
    (hcount : d.addrCount = 1) :
    QuietlyBecomes u d (s.slot u) s (dispatchSecondary u (s.updDev u f)) := by
  have hdev : (s.updDev u f).dev u = d := by rw [State.dev_updDev_self, hd]
  rw [dispatchSecondary_of_ne (by rw [hdev, hcount]; decide), ← hd]
  exact updDev_becomes u f s

variable (hd : s.dev u = d)

include hd

theorem cmdListen_calls (hcount : d.addrCount = 2) :
    UnitCalls u (secondaryCall u d.secondary) { d with listening := true, talking := false } (s.slot u) s
      (cmdListen u s) :=
  assignThenSecondary_calls (d := { d with listening := true, talking := false }) (by rw [hd]) (by rw [hd]) hcount

theorem cmdListen_quiet (hcount : d.addrCount = 1) :
    QuietlyBecomes u { d with listening := true, talking := false } (s.slot u) s (cmdListen u s) :=
  assignThenSecondary_quiet (by rw [hd]) hcount

theorem cmdTalk_calls (hcount : d.addrCount = 2) :
    UnitCalls u (secondaryCall u d.secondary) { d with listening := false, talking := true } (s.slot u) s
      (cmdTalk u s) :=
  assignThenSecondary_calls (d := { d with listening := false, talking := true }) (by rw [hd]) (by rw [hd]) hcount

theorem cmdTalk_quiet (hcount : d.addrCount = 1) :
    QuietlyBecomes u { d with listening := false, talking := true } (s.slot u) s (cmdTalk u s) :=
  assignThenSecondary_quiet (by rw [hd]) hcount

/-- The DeviceState in which a pending regime has its channel back (R136). -/
theorem cmdNone_resumes :
    QuietlyBecomes u
      { d with secondary := if d.listening = true ∨ d.talking = true then d.secPrev else d.secondary }
      (s.slot u) s (cmdNone u s) := by
  subst hd
  have h := cmdNone_becomes u s
  simp only [Bool.or_eq_true] at h
  split at h
  · next hpending => rwa [if_pos hpending]
  · next hidle => rwa [if_neg hidle]

theorem cmdUnlisten_calls (hlis : d.listening = true) :
    UnitCalls u (.unlisten u (channelOf d.secPrev) d.status[channelOf d.secPrev]) { d with listening := false }
      (s.slot u) s (cmdUnlisten u s) := by
  subst hd
  have hcalls := dispatch_calls (s := s.updDev u fun d => { d with listening := false })
    (DispCall.unit_unlisten u (channelOf (s.dev u).secPrev) (s.statusOf u (channelOf (s.dev u).secPrev)))
  rw [State.dev_updDev_self] at hcalls
  rw [cmdUnlisten, if_pos hlis]
  exact hcalls.of_updDev rfl

theorem cmdUnlisten_of_not_listening (hlis : d.listening = false) : cmdUnlisten u s = cmdNone u s :=
  if_neg (by simp [hd, hlis])

theorem cmdUntalk_calls (htalk : d.talking = true) :
    UnitCalls u (.untalk u (channelOf d.secPrev) d.status[channelOf d.secPrev]) { d with talking := false }
      (s.slot u) s (cmdUntalk u s) := by
  subst hd
  have hcalls := dispatch_calls (s := s.updDev u fun d => { d with talking := false })
    (DispCall.unit_untalk u (channelOf (s.dev u).secPrev) (s.statusOf u (channelOf (s.dev u).secPrev)))
  rw [State.dev_updDev_self] at hcalls
  rw [cmdUntalk, if_pos htalk]
  exact hcalls.of_updDev rfl

theorem cmdUntalk_of_not_talking (htalk : d.talking = false) : cmdUntalk u s = cmdNone u s :=
  if_neg (by simp [hd, htalk])

end commands

/-! ### The primary rows on the captured byte -/

section rows

variable {s : State} {u : UnitNo}

theorem active_iff : s.active u = true ↔ Stepped s u := by
  simp [State.active, Stepped, inRange, and_assoc]

theorem hasPrimary_iff {p : Byte} : s.hasPrimary u p = true ↔
    Stepped s u ∧ (s.dev u).atn = true ∧ 1 ≤ (s.dev u).addrCount.val ∧ (s.dev u).primary = p := by
  simp [State.hasPrimary, DeviceState.captured, active_iff, and_assoc]

theorem exec_listen {a : BitVec 5} (h : s.hasPrimary u (0b001#3 ++ a) = true) :
    exec (.listen u a) s = .next (if a.toNat = u.val then cmdListen u s else cmdNone u s) :=
  congrArg Host.Outcome.next (if_pos h)

theorem exec_talk {a : BitVec 5} (h : s.hasPrimary u (0b010#3 ++ a) = true) :
    exec (.talk u a) s = .next (if a.toNat = u.val then cmdTalk u s else cmdNone u s) :=
  congrArg Host.Outcome.next (if_pos h)

theorem exec_other {p : Byte} (h : s.hasPrimary u p = true) : exec (.other u p) s = .next (cmdNone u s) :=
  congrArg Host.Outcome.next (if_pos h)

theorem exec_unlisten (h : s.hasPrimary u 0x3F#8 = true) : exec (.unlisten u) s = .next (cmdUnlisten u s) :=
  congrArg Host.Outcome.next (if_pos h)

theorem exec_untalk (h : s.hasPrimary u 0x5F#8 = true) : exec (.untalk u) s = .next (cmdUntalk u s) :=
  congrArg Host.Outcome.next (if_pos h)

end rows

/-- Settles O36: the byte is captured, so the row is its command; the unit's own address takes the role, and every
other byte is no command. -/
theorem listenTalkOtherRows : Obligations.ListenTalkOtherRows := by
  intro s u a p hu hatn hcount
  have hcaptured {q : Byte} (hq : (s.dev u).primary = q) : s.hasPrimary u q = true :=
    hasPrimary_iff.mpr ⟨hu, hatn, hcount, hq⟩
  refine ⟨fun _ hprimary => ?_, fun _ hprimary => ?_, fun _ hprimary => ?_⟩
  · have hbyte := BitVec.eq_of_toNat_eq (hprimary.trans (listenByte_toNat a).symm)
    refine ⟨_, exec_listen (hcaptured hbyte), fun ha h2 => ?_, fun ha h1 => ?_, fun ha => ?_⟩
    · rw [if_pos ha]; exact cmdListen_calls rfl h2
    · rw [if_pos ha]; exact cmdListen_quiet rfl h1
    · rw [if_neg ha]; exact cmdNone_resumes rfl
  · have hbyte := BitVec.eq_of_toNat_eq (hprimary.trans (talkByte_toNat a).symm)
    refine ⟨_, exec_talk (hcaptured hbyte), fun ha h2 => ?_, fun ha h1 => ?_, fun ha => ?_⟩
    · rw [if_pos ha]; exact cmdTalk_calls rfl h2
    · rw [if_pos ha]; exact cmdTalk_quiet rfl h1
    · rw [if_neg ha]; exact cmdNone_resumes rfl
  · exact ⟨_, exec_other (hcaptured hprimary), cmdNone_resumes rfl⟩

/-- Settles O37: the broadcast is captured, so the row is its command, which is none for a unit outside the regime. -/
theorem unlistenUntalkRows : Obligations.UnlistenUntalkRows := by
  intro s u hu hatn hcount
  have hcaptured {q : Byte} (hq : (s.dev u).primary = q) : s.hasPrimary u q = true :=
    hasPrimary_iff.mpr ⟨hu, hatn, hcount, hq⟩
  refine ⟨fun hprimary => ?_, fun hprimary => ?_⟩
  · refine ⟨_, exec_unlisten (hcaptured hprimary), cmdUnlisten_calls rfl, fun hlis => ?_⟩
    rw [cmdUnlisten_of_not_listening rfl hlis]
    exact cmdNone_resumes rfl
  · refine ⟨_, exec_untalk (hcaptured hprimary), cmdUntalk_calls rfl, fun htalk => ?_⟩
    rw [cmdUntalk_of_not_talking rfl htalk]
    exact cmdNone_resumes rfl

/-! ### The two edges -/

/-- Settles O34: the row is selected, and the entry of the ATN event is one assignment, one phase change and one slot
write. -/
theorem atnFallSavesAndAssertsPresence : Obligations.AtnFallSavesAndAssertsPresence := by
  intro s x hu hc hatn hsnap
  exact ⟨_, rowStep_selected hu hc (by simp [DeviceState.seesFall, hatn, hsnap]), atnEntry_becomes _ _ s⟩

/-- The first assignment of `atnReturn`: the unit is no longer under ATN (R127). -/
def leaveAtn (u : UnitNo) (s : State) : State := s.updDev u fun d => { d with atn := false }

section atnRise

variable {u : UnitNo} {now : Clock} {d : DeviceState} {s : State}

theorem leaveAtn_dev (u : UnitNo) (s : State) : (leaveAtn u s).dev u = { s.dev u with atn := false } :=
  State.dev_updDev_self s u _

theorem atnReturn_eq : atnReturn u now s = regimeEntry u now (primaryCommand u (leaveAtn u s)) := rfl

/-- A command with a call, seen from before the edge and after the entry of the new regime (R138). -/
theorem UnitCalls.atnReturn {call : DispCall} {w : Slot} {r : State} {lis : Bool}
    (h : UnitCalls u call d w (leaveAtn u s) r) (hcmd : primaryCommand u (leaveAtn u s) = r)
    (hlis : d.listening = lis) :
    UnitCalls u call { d with phase := .pre0, stamp := now } ⟨false, lis⟩ s (atnReturn u now s) := by
  obtain ⟨⟨hcalls, hanswers⟩, hframe, hdev, hslot⟩ := h.of_updDev rfl
  obtain ⟨hentry, kcalls, kanswers⟩ := regimeEntry_becomes u now r
  rw [hdev, latched_listening, hlis] at hentry
  rw [atnReturn_eq, hcmd]
  exact ⟨⟨kcalls.trans hcalls, kanswers.trans hanswers⟩, UnitBecomes.trans ⟨hframe, hdev, hslot⟩ hentry⟩

theorem QuietlyBecomes.atnReturn {w : Slot} {r : State} {lis : Bool}
    (h : QuietlyBecomes u d w (leaveAtn u s) r) (hcmd : primaryCommand u (leaveAtn u s) = r)
    (hlis : d.listening = lis) :
    QuietlyBecomes u { d with phase := .pre0, stamp := now } ⟨false, lis⟩ s (atnReturn u now s) := by
  obtain ⟨⟨hframe, hdev, hslot⟩, hno⟩ := h.of_updDev
  have hentry := regimeEntry_becomes u now r
  rw [hdev, hlis] at hentry
  rw [atnReturn_eq, hcmd]
  exact QuietlyBecomes.trans ⟨⟨hframe, hdev, hslot⟩, hno⟩ hentry

end atnRise

/-! The command of the captured byte, class by class (R127). -/

section primary

theorem one_le_of_captured {n : Fin 3} (h : n = 1 ∨ n = 2) : 1 ≤ n.val := by
  obtain rfl | rfl := h <;> decide

variable {u : UnitNo} {d : DeviceState} {s : State} (hd : s.dev u = d)

include hd

theorem primaryCommand_of_no_byte (hcount : d.addrCount = 0) : primaryCommand u s = cmdNone u s :=
  if_neg (by simp [hd, hcount])

variable (hcount : 1 ≤ d.addrCount.val)

include hcount

theorem primaryCommand_listenMe (h : pClass d.primary u = .listenMe) : primaryCommand u s = cmdListen u s := by
  rw [primaryCommand, hd, if_pos hcount, h]

theorem primaryCommand_talkMe (h : pClass d.primary u = .talkMe) : primaryCommand u s = cmdTalk u s := by
  rw [primaryCommand, hd, if_pos hcount, h]

theorem primaryCommand_unlisten (h : d.primary = 0x3F#8) : primaryCommand u s = cmdUnlisten u s := by
  rw [primaryCommand, hd, if_pos hcount, h, pClass_unlisten]

theorem primaryCommand_untalk (h : d.primary = 0x5F#8) : primaryCommand u s = cmdUntalk u s := by
  rw [primaryCommand, hd, if_pos hcount, h, pClass_untalk]

theorem primaryCommand_other (h : pClass d.primary u = .other) : primaryCommand u s = cmdNone u s := by
  rw [primaryCommand, hd, if_pos hcount, h]

omit hcount

/-- No byte, a byte for somebody else, or a broadcast that does not concern the unit: no command (R127, R136). -/
theorem primaryCommand_eq_cmdNone (h : d.addrCount = 0 ∨ pClass d.primary u = .other ∨
      (d.primary = 0x3F#8 ∧ d.listening = false) ∨ (d.primary = 0x5F#8 ∧ d.talking = false)) :
    primaryCommand u s = cmdNone u s := by
  by_cases h0 : d.addrCount = 0
  · exact primaryCommand_of_no_byte hd h0
  have hcount : 1 ≤ d.addrCount.val := Nat.one_le_iff_ne_zero.mpr (Fin.val_ne_of_ne h0)
  obtain h | hother | ⟨hunlisten, hlis⟩ | ⟨huntalk, htalk⟩ := h
  · exact absurd h h0
  · exact primaryCommand_other hd hcount hother
  · rw [primaryCommand_unlisten hd hcount hunlisten, cmdUnlisten_of_not_listening hd hlis]
  · rw [primaryCommand_untalk hd hcount huntalk, cmdUntalk_of_not_talking hd htalk]

end primary

/-- Settles O35: the edge is one assignment, the command of the captured byte and the entry of the regime, so each
line of the table is the line of its command. -/
theorem atnRiseOutcome : Obligations.AtnRiseOutcome := by
  intro s x hu hc hatn hsnap
  have hd := leaveAtn_dev x.unit s
  refine ⟨_, rowStep_selected hu hc (by simp [DeviceState.seesRise, hatn, hsnap]), fun hp h2 => ?_, fun hp h1 => ?_,
    fun hp h2 => ?_, fun hp h1 => ?_, fun hp hcount hlis => ?_, fun hp hcount htalk hlis => ?_, fun hnone => ?_⟩
  · exact (cmdListen_calls hd h2).atnReturn
      (primaryCommand_listenMe hd (one_le_of_captured (.inr h2)) (pClass_listenMe hp)) rfl
  · exact (cmdListen_quiet hd h1).atnReturn
      (primaryCommand_listenMe hd (one_le_of_captured (.inl h1)) (pClass_listenMe hp)) rfl
  · exact (cmdTalk_calls hd h2).atnReturn
      (primaryCommand_talkMe hd (one_le_of_captured (.inr h2)) (pClass_talkMe hp)) rfl
  · exact (cmdTalk_quiet hd h1).atnReturn
      (primaryCommand_talkMe hd (one_le_of_captured (.inl h1)) (pClass_talkMe hp)) rfl
  · exact (cmdUnlisten_calls hd hlis).atnReturn (primaryCommand_unlisten hd hcount hp) rfl
  · exact (cmdUntalk_calls hd htalk).atnReturn (primaryCommand_untalk hd hcount hp) hlis
  · exact (cmdNone_resumes hd).atnReturn (primaryCommand_eq_cmdNone hd hnone) rfl

end Sys2Proof.Machine
end

-- ==== Proofs of the ATN family (42_atn_arbitration.md): the rows issued by themselves ====
section

set_option Elab.async false

namespace Sys2Proof.Machine

/-! ### A command row without its byte -/

section commandRows

variable {s : State} {u : UnitNo}

theorem pClass_eq_listenMe_iff {p : Byte} : pClass p u = .listenMe ↔ p.toNat = 0x20 + u.val := by
  refine ⟨fun h => ?_, pClass_listenMe⟩
  by_contra hne
  rw [pClass, if_neg hne] at h
  split_ifs at h

theorem pClass_eq_talkMe_iff {p : Byte} : pClass p u = .talkMe ↔ p.toNat = 0x40 + u.val := by
  refine ⟨fun h => ?_, pClass_talkMe⟩
  by_contra hne
  rw [pClass, if_neg hne] at h
  split_ifs at h

theorem hasSecondary_iff {b : Byte} : s.hasSecondary u b = true ↔
    Stepped s u ∧ (s.dev u).atn = true ∧ (s.dev u).addrCount = 2 ∧ (s.dev u).secondary = b ∧
      ((s.dev u).primary.toNat = 0x20 + u.val ∨ (s.dev u).primary.toNat = 0x40 + u.val) := by
  simp [State.hasSecondary, active_iff, and_assoc, pClass_eq_listenMe_iff, pClass_eq_talkMe_iff]

/-- Whatever row the byte is decoded to, its condition is that this very byte is captured. -/
theorem exec_decodePrimary_of_not_captured {p : Byte} (h : ¬ s.hasPrimary u p = true) :
    exec (decodePrimary u p) s = .next s := by
  cases primaryByte p with
  | listen a ha => rw [decodePrimary_listen u ha]; exact congrArg Host.Outcome.next (if_neg h)
  | talk a ha => rw [decodePrimary_talk u ha]; exact congrArg Host.Outcome.next (if_neg h)
  | unlisten => exact congrArg Host.Outcome.next (if_neg h)
  | untalk => exact congrArg Host.Outcome.next (if_neg h)
  | other _ hp => rw [decodePrimary_other u hp]; exact congrArg Host.Outcome.next (if_neg h)

theorem exec_decodeSecondary_of_not_captured {b : Byte} (h : ¬ s.hasSecondary u b = true) :
    exec (decodeSecondary u b) s = .next s := by
  cases secondaryByte b with
  | openByte c => rw [decodeSecondary_open]; exact congrArg Host.Outcome.next (if_neg h)
  | closeByte c => rw [decodeSecondary_close]; exact congrArg Host.Outcome.next (if_neg h)
  | dataByte k c hF hE => rw [decodeSecondary_data u c hF hE]; exact congrArg Host.Outcome.next (if_neg h)

end commandRows

/-- Settles O32: each of the disjuncts denies a part of the row's condition. -/
theorem commandRowWithoutItsByteChangesNothing : Obligations.CommandRowWithoutItsByteChangesNothing := by
  rintro s u w i rfl hdecode
  refine ⟨fun hfmt hnot => ?_, fun hfmt hnot => ?_⟩
  · rw [decode, hfmt] at hdecode
    cases hdecode
    refine exec_decodePrimary_of_not_captured fun h => ?_
    obtain ⟨hu, hatn, hcount, hprimary⟩ := hasPrimary_iff.mp h
    obtain hn | hn | hn | hn := hnot
    · exact hn hu
    · simp [hatn] at hn
    · simp [hn] at hcount
    · exact hn hprimary
  · rw [decode, hfmt] at hdecode
    cases hdecode
    refine exec_decodeSecondary_of_not_captured fun h => ?_
    obtain ⟨hu, hatn, hcount, hsecondary, hclass⟩ := hasSecondary_iff.mp h
    obtain hn | hn | hn | hn | ⟨hlisten, htalk⟩ := hnot
    · exact hn hu
    · simp [hatn] at hn
    · exact hn hcount
    · exact hn hsecondary
    · exact hclass.elim hlisten htalk

/-! ### The flattened phase code, read back (10_state.md R28) -/

/-- The phase kind of a code below 25. -/
def phaseOf (k : Nat) : Phase :=
  match k with
  | 0 => .pre0
  | 1 => .pre1
  | 2 => .ready
  | 3 => .eoi
  | 4 => .eoiw
  | 21 => .done0
  | 22 => .done1
  | 23 => .retry0
  | 24 => .retry1
  | k => if k % 2 = 1 then .bit else .bitw

/-- The cursor of a code between BIT0 and BITW7. -/
def cursorOf (k : Nat) : Fin 8 := Fin.ofNat 8 ((k - 5) / 2)

theorem phaseCode_phaseOf : ∀ k < 25, phaseCode (phaseOf k) (cursorOf k) = k := by decide

theorem phaseOf_phaseCode (p : Phase) (n : Fin 8) : phaseOf (phaseCode p n) = p := by
  cases p with
  | bit | bitw => revert n; decide
  | _ => rfl

theorem cursorOf_bit (n : Fin 8) : cursorOf (phaseCode .bit n) = n := by
  revert n; decide

theorem cursorOf_bitw (n : Fin 8) : cursorOf (phaseCode .bitw n) = n := by
  revert n; decide

section code

variable {p q : Phase} {m n : Fin 8}

/-- A code tells the phase kind, and between BIT0 and BITW7 the cursor. -/
theorem phase_eq_of_code (h : phaseCode q m = phaseCode p n) : q = p := by
  rw [← phaseOf_phaseCode q m, h, phaseOf_phaseCode]

theorem bit_eq_of_code (h : phaseCode q m = phaseCode .bit n) : q = .bit ∧ m = n := by
  obtain rfl := phase_eq_of_code h
  exact ⟨rfl, by rw [← cursorOf_bit m, h, cursorOf_bit]⟩

theorem bitw_eq_of_code (h : phaseCode q m = phaseCode .bitw n) : q = .bitw ∧ m = n := by
  obtain rfl := phase_eq_of_code h
  exact ⟨rfl, by rw [← cursorOf_bitw m, h, cursorOf_bitw]⟩

end code

/-! ### A row that runs inside `exec` only, issued by itself -/

section rowStep

variable {x : StepCtx} {sel : Bool} {s : State}

theorem rowStep_not_selected {body : State → State} (hc : ClockOk s x.now)
    (h : s.active x.unit = false ∨ sel = false) : rowStep x sel body s = .next s := by
  have hcond : (s.active x.unit && sel) = false := Bool.and_eq_false_iff.mpr h
  simp [rowStep, clockBack_eq_none hc, hcond]

/-- Only what the body does when it is selected matters. -/
theorem rowStep_congr {body body' : State → State} (h : sel = true → body s = body' s) :
    rowStep x sel body s = rowStep x sel body' s := by
  cases sel
  · simp [rowStep]
  · simp [rowStep, h rfl]

end rowStep

/-! ### The receive rows (43_byte_receive.md R145) -/

/-- The receive row of a phase kind and a cursor; of the two rows with code 20 the one of the regime. -/
def receiveRow (x : StepCtx) (underAtn : Bool) (p : Phase) (n : Fin 8) : Instr :=
  match p with
  | .pre0 => .rxPre0 x
  | .pre1 => .rxPre1 x
  | .ready => .rxReady x
  | .eoi => .rxEoi x
  | .eoiw => .rxEoiw x
  | .bit => .rxBit n x
  | .bitw =>
    if h : n.val < 7 then .rxBitw ⟨n.val, h⟩ x else if underAtn then .rxBitw7Atn x else .rxBitw7Listen x
  | .done0 => .rxDone0 x
  | .done1 => .rxDone1 x
  | .retry0 => .rxRetry0 x
  | .retry1 => .rxRetry1 x

theorem decodeReceive_phaseCode (x : StepCtx) (underAtn : Bool) (p : Phase) (n : Fin 8) :
    decodeReceive x underAtn (BitVec.ofNat 8 (phaseCode p n)) = .ok (receiveRow x underAtn p n) := by
  cases p with
  | bit | bitw => fin_cases n <;> rfl
  | _ => rfl

theorem code_lt_of_decodeReceive {x : StepCtx} {underAtn : Bool} {code : BitVec 8} {i : Instr}
    (h : decodeReceive x underAtn code = .ok i) : code.toNat < 25 := by
  unfold decodeReceive at h
  split at h
  case h_26 => cases h
  all_goals omega

/-- A code below 25 is the code of its phase kind and cursor. -/
theorem ofNat_phaseCode {code : BitVec 8} (h : code.toNat < 25) :
    BitVec.ofNat 8 (phaseCode (phaseOf code.toNat) (cursorOf code.toNat)) = code := by
  rw [phaseCode_phaseOf _ h, BitVec.ofNat_toNat, BitVec.setWidth_eq]

theorem eq_receiveRow_of_decode {x : StepCtx} {underAtn : Bool} {code : BitVec 8} {i : Instr}
    (h : decodeReceive x underAtn code = .ok i) :
    i = receiveRow x underAtn (phaseOf code.toNat) (cursorOf code.toNat) := by
  have hrow := decodeReceive_phaseCode x underAtn (phaseOf code.toNat) (cursorOf code.toNat)
  rw [ofNat_phaseCode (code_lt_of_decodeReceive h), h] at hrow
  exact Except.ok.inj hrow

theorem code_of_selectsRx {d : DeviceState} {S : Snapshot} {k : Nat} (h : d.selectsRx S k = true) :
    phaseCode d.phase d.cursor = k := by
  simp_all [DeviceState.selectsRx]

theorem code_of_selectsTx {d : DeviceState} {S : Snapshot} {k : Nat} (h : d.selectsTx S k = true) :
    phaseCode d.phase d.cursor = k := by
  simp_all [DeviceState.selectsTx]

section receiveExec

variable (x : StepCtx) (s : State)

theorem exec_rxBit (n : Fin 8) :
    exec (.rxBit n x) s = rxRow (5 + 2 * n.val) x (rxSample n x.unit x.snap x.now) s := by
  fin_cases n <;> rfl

theorem exec_rxBitw (n : Fin 7) :
    exec (.rxBitw n x) s = rxRow (6 + 2 * n.val) x (rxAdvance n.castSucc x.unit x.snap x.now) s := by
  fin_cases n <;> rfl

/-- The condition on which a receive row acts: its code is the unit's, and so is the regime of the rows with code 20. -/
def rowReceives (d : DeviceState) (S : Snapshot) (underAtn : Bool) (p : Phase) (n : Fin 8) : Bool :=
  d.selectsRx S (phaseCode p n) && (phaseCode p n != 20 || underAtn == d.atn)

variable {x s}

/-- A row whose code has no second row, and whose body is the branch of its phase, is the receive step on its
condition. -/
theorem eq_rxStep_of_rxRow {i : Instr} {underAtn : Bool} {p : Phase} {n : Fin 8} {body : State → State}
    (hrow : exec i s = rxRow (phaseCode p n) x body s) (hcode : phaseCode p n ≠ 20)
    (hbody : phaseCode (s.dev x.unit).phase (s.dev x.unit).cursor = phaseCode p n →
      body s = rxStep x.unit x.snap x.now (s.dev x.unit).atn s) :
    exec i s = rowStep x (rowReceives (s.dev x.unit) x.snap underAtn p n)
      (rxStep x.unit x.snap x.now (s.dev x.unit).atn) s := by
  have hsel : rowReceives (s.dev x.unit) x.snap underAtn p n = (s.dev x.unit).selectsRx x.snap (phaseCode p n) := by
    simp [rowReceives, hcode]
  rw [hrow, rxRow, hsel]
  exact rowStep_congr fun h => hbody (code_of_selectsRx h)

variable (x s)

/-- The last bit's rows: the regime tells them apart (R152). -/
theorem exec_receiveRow_bitw7 (underAtn : Bool) :
    exec (receiveRow x underAtn .bitw 7) s =
      rowStep x (rowReceives (s.dev x.unit) x.snap underAtn .bitw 7)
        (rxStep x.unit x.snap x.now (s.dev x.unit).atn) s := by
  have hsel : rowReceives (s.dev x.unit) x.snap underAtn .bitw 7 =
      ((s.dev x.unit).selectsRx x.snap 20 && underAtn == (s.dev x.unit).atn) := rfl
  have hrow : exec (receiveRow x underAtn .bitw 7) s =
      rowStep x (rowReceives (s.dev x.unit) x.snap underAtn .bitw 7)
        (if underAtn then rxCompleteAtn x.unit x.snap x.now else rxCompleteListen x.unit x.snap x.now) s := by
    cases underAtn
    · rw [hsel, Bool.false_beq]; rfl
    · rw [hsel, Bool.true_beq]; rfl
  rw [hrow]
  refine rowStep_congr fun h => ?_
  rw [hsel, Bool.and_eq_true, beq_iff_eq] at h
  obtain ⟨hselects, hatn⟩ := h
  obtain ⟨hphase, hcursor⟩ := bitw_eq_of_code (n := 7) (code_of_selectsRx hselects)
  rw [rxStep, hphase, hcursor, ← hatn]
  cases underAtn <;> rfl

/-- Every receive row is the unit's receive step, on its condition. -/
theorem exec_receiveRow (underAtn : Bool) (p : Phase) (n : Fin 8) :
    exec (receiveRow x underAtn p n) s =
      rowStep x (rowReceives (s.dev x.unit) x.snap underAtn p n)
        (rxStep x.unit x.snap x.now (s.dev x.unit).atn) s := by
  cases p with
  | bit =>
    refine eq_rxStep_of_rxRow (exec_rxBit x s n) (by simp only [phaseCode]; omega) fun h => ?_
    obtain ⟨hphase, hcursor⟩ := bit_eq_of_code h
    simp only [rxStep, hphase, hcursor]
  | bitw =>
    by_cases hn : n.val < 7
    · rw [receiveRow, dif_pos hn]
      refine eq_rxStep_of_rxRow (exec_rxBitw x s ⟨n.val, hn⟩) (by simp only [phaseCode]; omega) fun h => ?_
      obtain ⟨hphase, hcursor⟩ := bitw_eq_of_code h
      simp only [rxStep, hphase, hcursor, if_pos hn, Fin.castSucc_mk, Fin.eta]
    · obtain rfl : n = 7 := by omega
      exact exec_receiveRow_bitw7 x s underAtn
  | _ => exact eq_rxStep_of_rxRow rfl (by simp [phaseCode]) fun h => by simp only [rxStep, phase_eq_of_code h]

end receiveExec

/-! ### The transmit rows (44_byte_transmit.md R163) -/

/-- The transmit row of a phase kind and a cursor. -/
def transmitRow (x : StepCtx) (p : Phase) (n : Fin 8) : Instr :=
  match p with
  | .pre0 => .txPre0 x
  | .pre1 => .txPre1 x
  | .ready => .txReady x
  | .eoi => .txEoi x
  | .eoiw => .txEoiw x
  | .bit => .txBit n x
  | .bitw => .txBitw n x
  | .done0 => .txDone0 x
  | .done1 => .txDone1 x
  | .retry0 => .txRetry0 x
  | .retry1 => .txRetry1 x

theorem decodeTransmit_phaseCode (x : StepCtx) (p : Phase) (n : Fin 8) :
    decodeTransmit x (BitVec.ofNat 8 (phaseCode p n)) = .ok (transmitRow x p n) := by
  cases p with
  | bit | bitw => fin_cases n <;> rfl
  | _ => rfl

theorem code_lt_of_decodeTransmit {x : StepCtx} {code : BitVec 8} {i : Instr}
    (h : decodeTransmit x code = .ok i) : code.toNat < 25 := by
  unfold decodeTransmit at h
  split at h
  case h_26 => cases h
  all_goals omega

theorem eq_transmitRow_of_decode {x : StepCtx} {code : BitVec 8} {i : Instr}
    (h : decodeTransmit x code = .ok i) : i = transmitRow x (phaseOf code.toNat) (cursorOf code.toNat) := by
  have hrow := decodeTransmit_phaseCode x (phaseOf code.toNat) (cursorOf code.toNat)
  rw [ofNat_phaseCode (code_lt_of_decodeTransmit h), h] at hrow
  exact Except.ok.inj hrow

section transmitExec

variable (x : StepCtx) (s : State)

theorem exec_txBit (n : Fin 8) : exec (.txBit n x) s = txRow (5 + 2 * n.val) x (txSetup n x.unit x.now) s := by
  fin_cases n <;> rfl

theorem exec_txBitw (n : Fin 8) : exec (.txBitw n x) s = txRow (6 + 2 * n.val) x (txValid n x.unit x.now) s := by
  fin_cases n <;> rfl

variable {x s} in
/-- A row whose body is the branch of its phase is the transmit step on its condition. -/
theorem eq_txStep_of_txRow {i : Instr} {k : Nat} {body : State → State} (hrow : exec i s = txRow k x body s)
    (hbody : phaseCode (s.dev x.unit).phase (s.dev x.unit).cursor = k → body s = txStep x.unit x.snap x.now s) :
    exec i s = rowStep x ((s.dev x.unit).selectsTx x.snap k) (txStep x.unit x.snap x.now) s := by
  rw [hrow, txRow]
  exact rowStep_congr fun h => hbody (code_of_selectsTx h)

/-- Every transmit row is the unit's transmit step, on its condition. -/
theorem exec_transmitRow (p : Phase) (n : Fin 8) :
    exec (transmitRow x p n) s =
      rowStep x ((s.dev x.unit).selectsTx x.snap (phaseCode p n)) (txStep x.unit x.snap x.now) s := by
  cases p with
  | bit =>
    refine eq_txStep_of_txRow (exec_txBit x s n) fun h => ?_
    obtain ⟨hphase, hcursor⟩ := bit_eq_of_code h
    simp only [txStep, hphase, hcursor]
  | bitw =>
    refine eq_txStep_of_txRow (exec_txBitw x s n) fun h => ?_
    obtain ⟨hphase, hcursor⟩ := bitw_eq_of_code h
    simp only [txStep, hphase, hcursor]
  | _ => exact eq_txStep_of_txRow rfl fun h => by simp only [txStep, phase_eq_of_code h]

end transmitExec

/-! ### What the decoder reads, and when it acts -/

theorem exec_of_decode_rx {x : StepCtx} {underAtn : Bool} {code : BitVec 8} {i : Instr} (s : State)
    (h : decode (stepWord .rx code x underAtn) = .ok i) :
    exec i s = rowStep x
      ((s.dev x.unit).selectsRx x.snap code.toNat && (code.toNat != 20 || underAtn == (s.dev x.unit).atn))
      (rxStep x.unit x.snap x.now (s.dev x.unit).atn) s := by
  have hdecode : decodeReceive x underAtn code = .ok i := h
  rw [eq_receiveRow_of_decode hdecode, exec_receiveRow, rowReceives,
    phaseCode_phaseOf _ (code_lt_of_decodeReceive hdecode)]

theorem exec_of_decode_tx {x : StepCtx} {underAtn : Bool} {code : BitVec 8} {i : Instr} (s : State)
    (h : decode (stepWord .tx code x underAtn) = .ok i) :
    exec i s = rowStep x ((s.dev x.unit).selectsTx x.snap code.toNat) (txStep x.unit x.snap x.now) s := by
  have hdecode : decodeTransmit x code = .ok i := h
  rw [eq_transmitRow_of_decode hdecode, exec_transmitRow, phaseCode_phaseOf _ (code_lt_of_decodeTransmit hdecode)]

/-- Settles O30: each of the disjuncts denies a part of the condition on which the row acts. -/
theorem rowNotSelectedChangesNothing : Obligations.RowNotSelectedChangesNothing := by
  intro s x code underAtn i hc
  refine ⟨fun hdecode hnot => ?_, fun hdecode hnot => ?_, rowStep_not_selected hc, rowStep_not_selected hc⟩
  · rw [exec_of_decode_rx s hdecode]
    refine rowStep_not_selected hc (hnot.imp_right ?_)
    rintro (hregime | hcode | ⟨h20, hother⟩)
    · simp [DeviceState.selectsRx, hregime]
    · simp [DeviceState.selectsRx, hcode]
    · simp [h20, hother]
  · rw [exec_of_decode_tx s hdecode]
    refine rowStep_not_selected hc (hnot.imp_right ?_)
    rintro (hregime | hcode)
    · simp [DeviceState.selectsTx, hregime]
    · simp [DeviceState.selectsTx, hcode]

/-! ### The unit's step is one of the rows (R125) -/

section unitStep

variable {u : UnitNo} {S : Snapshot} {now : Clock} {s : State}

theorem unitStep_of_fall (hatn : (s.dev u).atn = false) (hS : S.atn = false) :
    unitStep u S now s = atnEntry u now s := by
  simp [unitStep, DeviceState.seesFall, hatn, hS]

theorem unitStep_of_rise (hatn : (s.dev u).atn = true) (hS : S.atn = true) :
    unitStep u S now s = atnReturn u now s := by
  simp [unitStep, DeviceState.seesFall, DeviceState.seesRise, hatn, hS]

theorem seesNoEdge {d : DeviceState} (hedge : d.atn = !S.atn) : d.seesFall S = false ∧ d.seesRise S = false := by
  simp [DeviceState.seesFall, DeviceState.seesRise, hedge]

/-- The two receiving regimes, by the flags that show them (R23). -/
theorem receiver_cases {d : DeviceState} (hregime : d.atn = true ∨ d.listening = true) :
    (d.regime = .underAtn ∧ d.atn = true) ∨ (d.regime = .listening ∧ d.atn = false) := by
  cases hatn : d.atn
  · exact .inr ⟨regime_eq_listening.mpr ⟨hatn, by simpa [hatn] using hregime⟩, rfl⟩
  · exact .inl ⟨regime_eq_underAtn.mpr hatn, rfl⟩

theorem unitStep_of_receiver (hedge : (s.dev u).atn = !S.atn)
    (hregime : (s.dev u).atn = true ∨ (s.dev u).listening = true) :
    unitStep u S now s = rxStep u S now (s.dev u).atn s := by
  obtain ⟨hr, hatn⟩ | ⟨hr, hatn⟩ := receiver_cases hregime
  · simp [unitStep, seesNoEdge hedge, hr, hatn]
  · simp [unitStep, seesNoEdge hedge, hr, hatn]

theorem unitStep_of_talker (hedge : (s.dev u).atn = !S.atn) (hregime : (s.dev u).regime = .talking) :
    unitStep u S now s = txStep u S now s := by
  simp [unitStep, seesNoEdge hedge, hregime]

theorem unitStep_of_idle (hedge : (s.dev u).atn = !S.atn) (hregime : (s.dev u).regime = .idle) :
    unitStep u S now s = s := by
  simp [unitStep, seesNoEdge hedge, hregime]

end unitStep

theorem receives_of_receiver {d : DeviceState} {S : Snapshot} (hedge : d.atn = !S.atn)
    (hregime : d.atn = true ∨ d.listening = true) : d.receives S = true := by
  obtain ⟨hr, -⟩ | ⟨hr, -⟩ := receiver_cases hregime
  · simp [DeviceState.receives, seesNoEdge hedge, hr]
  · simp [DeviceState.receives, seesNoEdge hedge, hr]

theorem transmits_of_talker {d : DeviceState} {S : Snapshot} (hedge : d.atn = !S.atn)
    (hregime : d.regime = .talking) : d.transmits S = true := by
  simp [DeviceState.transmits, seesNoEdge hedge, hregime]

/-- Settles O28: in each of the five situations the unit's step is the body of the row, and the row's condition is
met. -/
theorem unitStepIsTheSelectedRow : Obligations.UnitStepIsTheSelectedRow := by
  intro s x hu hc
  refine ⟨fun ⟨hatn, hS⟩ => ?_, fun ⟨hatn, hS⟩ => ?_, fun hedge hregime => ?_, fun hatn hS hlis htalk => ?_,
    fun hatn hS hlis htalk => ?_⟩
  · rw [unitStep_of_fall hatn hS]
    exact rowStep_selected hu hc (by simp [DeviceState.seesFall, hatn, hS])
  · rw [unitStep_of_rise hatn hS]
    exact rowStep_selected hu hc (by simp [DeviceState.seesRise, hatn, hS])
  · refine ⟨_, decodeReceive_phaseCode x (s.dev x.unit).atn _ _, ?_⟩
    rw [exec_receiveRow, unitStep_of_receiver hedge hregime]
    exact rowStep_selected hu hc (by simp [rowReceives, DeviceState.selectsRx, receives_of_receiver hedge hregime])
  · have hedge : (s.dev x.unit).atn = !x.snap.atn := by rw [hatn, hS]; rfl
    have hregime := regime_eq_talking.mpr ⟨hatn, hlis, htalk⟩
    refine ⟨_, decodeTransmit_phaseCode x _ _, ?_⟩
    rw [exec_transmitRow, unitStep_of_talker hedge hregime]
    exact rowStep_selected hu hc (by simp [DeviceState.selectsTx, transmits_of_talker hedge hregime])
  · exact unitStep_of_idle (by rw [hatn, hS]; rfl) (regime_eq_idle.mpr ⟨hatn, hlis, htalk⟩)

end Sys2Proof.Machine
end

-- ==== Proofs of the ATN family (42_atn_arbitration.md): the flags after an exec ====
section

set_option Elab.async false

namespace Sys2Proof.Machine

/-! ### No phase rule changes the ATN flag or makes a talker (R125, R132) -/

/-- From `s` to `t` unit `u`'s ATN flag is kept, and the unit has not started talking. -/
structure NoRegimeTaken (u : UnitNo) (s t : State) : Prop where
  atn : (t.dev u).atn = (s.dev u).atn
  talking : (t.dev u).talking = true → (s.dev u).talking = true

section regime

variable {u : UnitNo} {s t r : State}

theorem NoRegimeTaken.refl : NoRegimeTaken u s s := ⟨rfl, id⟩

theorem NoRegimeTaken.ite {c : Prop} [Decidable c] (ht : NoRegimeTaken u s t) (hr : NoRegimeTaken u s r) :
    NoRegimeTaken u s (if c then t else r) := by
  split
  exacts [ht, hr]

theorem NoRegimeTaken.updDev {f : DeviceState → DeviceState} (h : NoRegimeTaken u s t)
    (hf : ∀ d, (f d).atn = d.atn ∧ ((f d).talking = true → d.talking = true) := by exact fun _ => ⟨rfl, id⟩) :
    NoRegimeTaken u s (t.updDev u f) := by
  obtain ⟨hatn, htalk⟩ := hf (t.dev u)
  exact ⟨by rw [State.dev_updDev_self, hatn, h.atn], fun ht => h.talking (htalk (by simpa using ht))⟩

/-- An assignment that ends a talker's regime. -/
theorem NoRegimeTaken.stopTalking {f : DeviceState → DeviceState} (h : NoRegimeTaken u s t)
    (hf : ∀ d, (f d).atn = d.atn ∧ (f d).talking = false := by exact fun _ => ⟨rfl, rfl⟩) :
    NoRegimeTaken u s (t.updDev u f) :=
  h.updDev fun d => ⟨(hf d).1, fun ht => absurd ((hf d).2.symm.trans ht) (by decide)⟩

theorem NoRegimeTaken.fabricWrite {cl dl : Bool} (h : NoRegimeTaken u s t) :
    NoRegimeTaken u s (t.fabricWrite u cl dl) := ⟨h.atn, h.talking⟩

theorem NoRegimeTaken.setPhase {p : Phase} {now : Clock} (h : NoRegimeTaken u s t) :
    NoRegimeTaken u s (t.setPhase u p now) := h.updDev

theorem NoRegimeTaken.dispatch {call : DispCall} (h : NoRegimeTaken u s t) : NoRegimeTaken u s (t.dispatch call) := by
  obtain ⟨hatn, -, htalk⟩ := dispatch_flags call u t
  exact ⟨hatn.trans h.atn, fun ht => h.talking (htalk ▸ ht)⟩

variable (u s) (now : Clock) (S : Snapshot)

theorem byteDoneAtn_noRegimeTaken : NoRegimeTaken u s (byteDoneAtn u now s) := by
  have hcapture (d : DeviceState) :
      (captureByte d).atn = d.atn ∧ ((captureByte d).talking = true → d.talking = true) := by
    refine ⟨captureByte_atn d, ?_⟩
    unfold captureByte
    split_ifs <;> exact id
  rw [byteDoneAtn_eq]
  exact .ite (.setPhase (.fabricWrite (.updDev .refl hcapture))) (.setPhase (.updDev .refl hcapture))

theorem rxStep_noRegimeTaken (underAtn : Bool) : NoRegimeTaken u s (rxStep u S now underAtn s) := by
  unfold rxStep
  cases (s.dev u).phase <;> dsimp only
  case pre0 => exact .ite (.setPhase .refl) .refl
  case pre1 => exact .ite (.setPhase (.fabricWrite .refl)) .refl
  case ready => exact .ite (.setPhase (.updDev .refl)) (.ite (.setPhase (.fabricWrite .refl)) .refl)
  case eoi => exact .ite (.setPhase (.fabricWrite .refl)) .refl
  case eoiw => exact .ite (.setPhase (.updDev .refl)) .refl
  case bit => exact .ite (.setPhase (.updDev .refl)) .refl
  case bitw =>
    have hlisten : NoRegimeTaken u s (byteDoneListen u now s) :=
      .ite (.setPhase (.fabricWrite (.dispatch .refl))) (.setPhase (.dispatch .refl))
    exact .ite (.ite (.setPhase (.updDev .refl)) .refl)
      (.ite (.ite (byteDoneAtn_noRegimeTaken u s now) .refl) (.ite hlisten .refl))
  all_goals exact .refl

theorem txReady_noRegimeTaken : NoRegimeTaken u s (txReady u S now s) := by
  unfold txReady
  split
  · dsimp only
    split
    · exact .setPhase (.updDev (.dispatch .refl))
    · exact .setPhase (.updDev (.dispatch .refl))
    · exact .setPhase (.fabricWrite (.stopTalking (.dispatch .refl)))
  · exact .refl

theorem txStep_noRegimeTaken : NoRegimeTaken u s (txStep u S now s) := by
  unfold txStep
  cases (s.dev u).phase <;> dsimp only
  case pre0 => exact .ite (.setPhase (.fabricWrite .refl)) .refl
  case pre1 => exact .ite (.setPhase (.fabricWrite .refl)) .refl
  case ready => exact txReady_noRegimeTaken u s now S
  case eoi => exact .ite (.setPhase .refl) .refl
  case eoiw => exact .ite (.setPhase (.updDev .refl)) .refl
  case bit => exact .ite (.setPhase (.fabricWrite .refl)) .refl
  case bitw => exact .ite (.ite (.setPhase (.updDev (.fabricWrite .refl))) (.setPhase (.fabricWrite .refl))) .refl
  case done0 => exact .ite (.setPhase (.fabricWrite .refl)) .refl
  case done1 =>
    exact .ite (.ite (.setPhase (.fabricWrite (.stopTalking .refl))) (.setPhase .refl))
      (.ite (.setPhase (.fabricWrite .refl)) .refl)
  case retry0 => exact .ite (.setPhase (.fabricWrite .refl)) .refl
  case retry1 => exact .ite (.setPhase (.updDev (.fabricWrite .refl))) .refl

/-! ### Of the commands only the unit's own TALK makes it a talker (R132) -/

theorem cmdNone_noRegimeTaken : NoRegimeTaken u s (cmdNone u s) := .ite (.updDev .refl) .refl

theorem cmdListen_noRegimeTaken : NoRegimeTaken u s (cmdListen u s) :=
  .ite (.dispatch (.stopTalking .refl)) (.stopTalking .refl)

theorem cmdUnlisten_noRegimeTaken : NoRegimeTaken u s (cmdUnlisten u s) :=
  .ite (.dispatch (.updDev .refl)) (cmdNone_noRegimeTaken u s)

theorem cmdUntalk_noRegimeTaken : NoRegimeTaken u s (cmdUntalk u s) :=
  .ite (.dispatch (.stopTalking .refl)) (cmdNone_noRegimeTaken u s)

theorem primaryCommand_noRegimeTaken
    (h : ¬ (1 ≤ (s.dev u).addrCount.val ∧ pClass (s.dev u).primary u = .talkMe)) :
    NoRegimeTaken u s (primaryCommand u s) := by
  unfold primaryCommand
  split
  · next hcount =>
    split
    · exact cmdListen_noRegimeTaken u s
    · next hclass => exact absurd ⟨hcount, hclass⟩ h
    · exact cmdUnlisten_noRegimeTaken u s
    · exact cmdUntalk_noRegimeTaken u s
    · exact cmdNone_noRegimeTaken u s
  · exact cmdNone_noRegimeTaken u s

theorem atnReturn_atn : ((atnReturn u now s).dev u).atn = false := by
  obtain ⟨⟨-, hdev, -⟩, -⟩ := regimeEntry_becomes u now (primaryCommand u (leaveAtn u s))
  obtain ⟨hatn, -⟩ := primaryCommand_flags u (leaveAtn u s)
  rw [atnReturn_eq, hdev]
  exact hatn.trans (by rw [leaveAtn_dev])

theorem atnReturn_talking (h : ((atnReturn u now s).dev u).talking = true) :
    (s.dev u).talking = true ∨ (1 ≤ (s.dev u).addrCount.val ∧ pClass (s.dev u).primary u = .talkMe) := by
  refine or_iff_not_imp_right.mpr fun hother => ?_
  obtain ⟨⟨-, hdev, -⟩, -⟩ := regimeEntry_becomes u now (primaryCommand u (leaveAtn u s))
  rw [atnReturn_eq, hdev] at h
  have hkept := (primaryCommand_noRegimeTaken u (leaveAtn u s) (by rwa [leaveAtn_dev])).talking h
  rwa [leaveAtn_dev] at hkept

/-! ### The step of a unit -/

/-- All a unit's step can be: the entry or the return of the ATN event on an edge, and without one the rule of a
receiver or a talker, or nothing (R125). -/
theorem unitStep_cases :
    ((s.dev u).atn = false ∧ S.atn = false ∧ unitStep u S now s = atnEntry u now s) ∨
      ((s.dev u).atn = true ∧ S.atn = true ∧ unitStep u S now s = atnReturn u now s) ∨
      ((s.dev u).atn = !S.atn ∧ (unitStep u S now s = rxStep u S now (s.dev u).atn s ∨
        unitStep u S now s = txStep u S now s ∨ unitStep u S now s = s)) := by
  by_cases hedge : (s.dev u).atn = !S.atn
  · refine .inr (.inr ⟨hedge, ?_⟩)
    cases hr : (s.dev u).regime with
    | underAtn => exact .inl (unitStep_of_receiver hedge (.inl (regime_eq_underAtn.mp hr)))
    | listening => exact .inl (unitStep_of_receiver hedge (.inr (regime_eq_listening.mp hr).2))
    | talking => exact .inr (.inl (unitStep_of_talker hedge hr))
    | idle => exact .inr (.inr (unitStep_of_idle hedge hr))
  · cases hatn : (s.dev u).atn
    · have hS : S.atn = false := by simpa [hatn] using hedge
      exact .inl ⟨rfl, hS, unitStep_of_fall hatn hS⟩
    · have hS : S.atn = true := by simpa [hatn] using hedge
      exact .inr (.inl ⟨rfl, hS, unitStep_of_rise hatn hS⟩)

theorem unitStep_noRegimeTaken (hedge : (s.dev u).atn = !S.atn) : NoRegimeTaken u s (unitStep u S now s) := by
  obtain ⟨hatn, hS, -⟩ | ⟨hatn, hS, -⟩ | ⟨-, h | h | h⟩ := unitStep_cases u s now S
  · simp [hatn, hS] at hedge
  · simp [hatn, hS] at hedge
  · rw [h]; exact rxStep_noRegimeTaken u s now S _
  · rw [h]; exact txStep_noRegimeTaken u s now S
  · rw [h]; exact .refl

/-- The unit has taken the edge, if there was one (R125, 60_exceptions.md R214). -/
theorem unitStep_atn : ((unitStep u S now s).dev u).atn = !S.atn := by
  obtain ⟨-, hS, h⟩ | ⟨-, hS, h⟩ | ⟨hedge, -⟩ := unitStep_cases u s now S
  · obtain ⟨⟨-, hdev, -⟩, -⟩ := atnEntry_becomes u now s
    rw [h, hdev, hS]; rfl
  · rw [h, atnReturn_atn, hS]; rfl
  · exact (unitStep_noRegimeTaken u s now S hedge).atn.trans hedge

theorem unitStep_talking (h : ((unitStep u S now s).dev u).talking = true) (hnot : (s.dev u).talking = false) :
    (s.dev u).atn = true ∧ S.atn = true ∧ 1 ≤ (s.dev u).addrCount.val ∧
      pClass (s.dev u).primary u = .talkMe := by
  obtain ⟨-, -, hstep⟩ | ⟨hatn, hS, hstep⟩ | ⟨hedge, -⟩ := unitStep_cases u s now S
  · obtain ⟨⟨-, hdev, -⟩, -⟩ := atnEntry_becomes u now s
    rw [hstep, hdev] at h
    exact absurd (hnot.symm.trans h) (by decide)
  · rw [hstep] at h
    obtain htalk | hown := atnReturn_talking u s now h
    · exact absurd (hnot.symm.trans htalk) (by decide)
    · exact ⟨hatn, hS, hown⟩
  · have htalk := (unitStep_noRegimeTaken u s now S hedge).talking h
    exact absurd (hnot.symm.trans htalk) (by decide)

/-- An idle unit, and a receiver in DONE1, wait for the next edge (R137 (d), 43_byte_receive.md R155). -/
theorem unitStep_passive (hedge : (s.dev u).atn = !S.atn)
    (h : (s.dev u).regime = .idle ∨ ((s.dev u).phase = .done1 ∧ (s.dev u).regime ≠ .talking)) :
    unitStep u S now s = s := by
  obtain hidle | ⟨hphase, hregime⟩ := h
  · exact unitStep_of_idle hedge hidle
  · have hrx (underAtn : Bool) : rxStep u S now underAtn s = s := by rw [rxStep, hphase, rxTerminal]
    cases hr : (s.dev u).regime with
    | underAtn => rw [unitStep_of_receiver hedge (.inl (regime_eq_underAtn.mp hr)), hrx]
    | listening => rw [unitStep_of_receiver hedge (.inr (regime_eq_listening.mp hr).2), hrx]
    | talking => exact absurd hr hregime
    | idle => exact unitStep_of_idle hedge hr

end regime

/-! ### One unit in an `exec` -/

section exec

variable {s t : State} {now : Clock} {u : UnitNo}

/-- What an `exec` does to one unit: the step of a stepped unit of an initialized controller, which reads its own
DeviceState and slot as they were before the `exec`, and otherwise nothing (41_device_controller.md R116, R117). -/
theorem exec_unit_cases (h : exec (.exec now) s = .next t) :
    (s.initialized = true ∧ Stepped s u ∧ ∃ r, r.dev u = s.dev u ∧ r.slot u = s.slot u ∧
      t.dev u = (unitStep u s.fabricRead now r).dev u ∧ t.slot u = (unitStep u s.fabricRead now r).slot u) ∨
    ((s.initialized = true → ¬ Stepped s u) ∧ t.dev u = s.dev u ∧ t.slot u = s.slot u) := by
  obtain ⟨hi, rfl⟩ | ⟨hi, -, rfl⟩ := execExec_cases h
  · exact .inr ⟨fun hi' => absurd (hi.symm.trans hi') (by decide), rfl, rfl⟩
  by_cases hs : Stepped s u
  · obtain ⟨hu, he⟩ := stepped_iff.mp hs
    obtain ⟨r, hdev, hslot, -, -, -, hstep⟩ :=
      stepUnits_of_enabled s.fabricRead now s (unitsOf_ascending s.cfg) hu he
    exact .inl ⟨hi, hs, r, hdev, hslot, hstep⟩
  · refine .inr ⟨fun _ => hs, ?_⟩
    by_cases hu : u ∈ unitsOf s.cfg
    · exact stepUnits_of_disabled s.fabricRead now s (unitsOf_ascending s.cfg) hu fun he =>
        hs (stepped_iff.mpr ⟨hu, he⟩)
    · exact (stepUnits_onlyUnits s.fabricRead now (unitsOf s.cfg) s).others u hu

end exec

/-- Settles O25: the unit's own step leaves the flag at the level it read. -/
theorem execSettlesEveryAtnEdge : Obligations.ExecSettlesEveryAtnEdge := by
  intro s t now hi h u hu
  obtain ⟨-, -, r, -, -, hdev, -⟩ | ⟨hnot, -⟩ := exec_unit_cases (u := u) h
  · rw [hdev, unitStep_atn, fabricRead_atn, Bool.not_not]
  · exact absurd hu (hnot hi)

/-- Settles O26: a unit that starts talking took its own TALK at the rising edge, and two units whose captured bytes
agree cannot both be named by them. -/
theorem onlyTheAddressedUnitBecomesTalker : Obligations.OnlyTheAddressedUnitBecomesTalker := by
  intro s t now h
  have hown (u : UnitNo) (hnot : (s.dev u).talking = false) (htalk : (t.dev u).talking = true) :
      Stepped s u ∧ (s.dev u).atn = true ∧ s.m.atnLow = false ∧ 1 ≤ (s.dev u).addrCount.val ∧
        (s.dev u).primary.toNat = 0x40 + u.val := by
    obtain ⟨-, hs, r, hr, -, hdev, -⟩ | ⟨-, hdev, -⟩ := exec_unit_cases (u := u) h
    · rw [hdev] at htalk
      obtain ⟨hatn, hS, hcount, hclass⟩ := unitStep_talking u r now s.fabricRead htalk (by rw [hr, hnot])
      rw [hr] at hatn hcount hclass
      exact ⟨hs, hatn, by simpa using hS, hcount, pClass_eq_talkMe_iff.mp hclass⟩
    · rw [hdev, hnot] at htalk
      exact absurd htalk (by decide)
  refine ⟨hown, fun hnone hsame u v hu hv => ?_⟩
  obtain ⟨hsu, -, -, -, hprimary⟩ := hown u (hnone u) hu
  obtain ⟨hsv, -, -, -, hprimary'⟩ := hown v (hnone v) hv
  rw [hsame u v hsu hsv] at hprimary
  exact Fin.ext (Nat.add_left_cancel (hprimary.symm.trans hprimary'))

/-- Settles O33: the step of such a unit is nothing, and no other unit's step reaches it. -/
theorem unaddressedUnitStaysPassive : Obligations.UnaddressedUnitStaysPassive := by
  intro s t now u h hu hatn hpassive
  obtain ⟨-, -, r, hr, hslot, hdev, hslot'⟩ | ⟨-, hkept⟩ := exec_unit_cases (u := u) h
  · have hstep : unitStep u s.fabricRead now r = r :=
      unitStep_passive u r now s.fabricRead (by rw [hr, hatn, fabricRead_atn, Bool.not_not]) (by rwa [hr])
    rw [hdev, hslot', hstep]
    exact ⟨hr, hslot⟩
  · exact hkept

end Sys2Proof.Machine
end

-- ==== Proofs of the receive family (43_byte_receive.md): the rules, phase by phase ====
section

namespace Sys2Proof.Machine

/-! ### A slot write and a phase change after what was done before -/

section becomes

variable {u : UnitNo} {d : DeviceState} {w : Slot} {s t : State}

theorem UnitBecomes.setPhase (h : UnitBecomes u d w s t) (p : Phase) (now : Clock) :
    UnitBecomes u { d with phase := p, stamp := now } w s (t.setPhase u p now) := by
  obtain ⟨hframe, rfl, rfl⟩ := h
  exact ⟨hframe.trans (.setPhase u p now t), State.dev_setPhase_self t u p now, State.slot_setPhase t u u p now⟩

theorem UnitBecomes.fabricWrite (h : UnitBecomes u d w s t) (cl dl : Bool) :
    UnitBecomes u d ⟨cl, dl⟩ s (t.fabricWrite u cl dl) := by
  obtain ⟨hframe, rfl, -⟩ := h
  exact ⟨hframe.trans (.fabricWrite u cl dl t), State.dev_fabricWrite t u u cl dl,
    State.slot_fabricWrite_self t u cl dl⟩

theorem QuietlyBecomes.setPhase (h : QuietlyBecomes u d w s t) (p : Phase) (now : Clock) :
    QuietlyBecomes u { d with phase := p, stamp := now } w s (t.setPhase u p now) :=
  ⟨h.1.setPhase p now, h.2⟩

theorem QuietlyBecomes.fabricWrite (h : QuietlyBecomes u d w s t) (cl dl : Bool) :
    QuietlyBecomes u d ⟨cl, dl⟩ s (t.fabricWrite u cl dl) :=
  ⟨h.1.fabricWrite cl dl, h.2⟩

end becomes

section rules

variable {u : UnitNo} {S : Snapshot} {now : Clock} {s : State}

/-- The drive of a phase is written as the phase is entered (R32, R33). -/
theorem enterPhase_becomes (u : UnitNo) (cl dl : Bool) (p : Phase) (now : Clock) (s : State) :
    QuietlyBecomes u { s.dev u with phase := p, stamp := now } ⟨cl, dl⟩ s
      ((s.fabricWrite u cl dl).setPhase u p now) :=
  (fabricWrite_becomes u cl dl s).setPhase p now

/-- The receiver waits for bit `n`, its drive as it was. -/
theorem startBit_becomes (n : Fin 8) (u : UnitNo) (now : Clock) (s : State) :
    QuietlyBecomes u { s.dev u with cursor := n, phase := .bit, stamp := now } (s.slot u) s
      ((s.updDev u fun d => { d with cursor := n }).setPhase u .bit now) :=
  (updDev_becomes u _ s).setPhase .bit now

/-! ### Before the frame (R146 to R150) -/

theorem rxPre0_settled (h : s.cfg.tRxSettle ≤ s.elapsed u now) :
    QuietlyBecomes u { s.dev u with phase := .pre1, stamp := now } (s.slot u) s (rxPre0 u now s) := by
  rw [rxPre0, if_pos h]
  exact setPhase_becomes u .pre1 now s

theorem rxPre0_waits (h : s.elapsed u now < s.cfg.tRxSettle) : rxPre0 u now s = s :=
  if_neg (Nat.not_le.mpr h)

theorem rxPre1_ready (h : S.clk = true) :
    QuietlyBecomes u { s.dev u with phase := .ready, stamp := now } ⟨false, false⟩ s (rxPre1 u S now s) := by
  rw [rxPre1, if_pos h]
  exact enterPhase_becomes u false false .ready now s

theorem rxPre1_waits (h : S.clk = false) : rxPre1 u S now s = s := if_neg (by simp [h])

/-- CLK low is tested first, so neither the regime nor the time matters (R148). -/
theorem rxReady_startsFrame (underAtn : Bool) (h : S.clk = false) :
    QuietlyBecomes u { s.dev u with cursor := 0, phase := .bit, stamp := now } (s.slot u) s
      (rxReady u S now underAtn s) := by
  rw [rxReady, if_pos (by simp [h])]
  exact startBit_becomes 0 u now s

theorem rxReady_of_clkHigh (underAtn : Bool) (h : S.clk = true) :
    rxReady u S now underAtn s =
      if underAtn = false ∧ s.cfg.tEoi ≤ s.elapsed u now then (s.fabricWrite u false true).setPhase u .eoi now
      else s := by
  simp [rxReady, h]

theorem rxReady_eoi (h : S.clk = true) (htime : s.cfg.tEoi ≤ s.elapsed u now) :
    QuietlyBecomes u { s.dev u with phase := .eoi, stamp := now } ⟨false, true⟩ s (rxReady u S now false s) := by
  rw [rxReady_of_clkHigh false h, if_pos ⟨rfl, htime⟩]
  exact enterPhase_becomes u false true .eoi now s

theorem rxReady_waits {underAtn : Bool} (h : S.clk = true)
    (hno : underAtn = true ∨ s.elapsed u now < s.cfg.tEoi) : rxReady u S now underAtn s = s := by
  rw [rxReady_of_clkHigh underAtn h, if_neg]
  rintro ⟨hlisten, htime⟩
  obtain hatn | hearly := hno
  · exact absurd (hatn.symm.trans hlisten) (by decide)
  · exact absurd htime (Nat.not_le.mpr hearly)

theorem rxEoi_released (h : s.cfg.tEoiAck ≤ s.elapsed u now) :
    QuietlyBecomes u { s.dev u with phase := .eoiw, stamp := now } ⟨false, false⟩ s (rxEoi u now s) := by
  rw [rxEoi, if_pos h]
  exact enterPhase_becomes u false false .eoiw now s

theorem rxEoi_holds (h : s.elapsed u now < s.cfg.tEoiAck) : rxEoi u now s = s :=
  if_neg (Nat.not_le.mpr h)

theorem rxEoiw_startsFrame (h : S.clk = false) :
    QuietlyBecomes u { s.dev u with cursor := 0, phase := .bit, stamp := now } (s.slot u) s
      (rxEoiw u S now s) := by
  rw [rxEoiw, if_pos (by simp [h])]
  exact startBit_becomes 0 u now s

theorem rxEoiw_waits (h : S.clk = true) : rxEoiw u S now s = s := if_neg (by simp [h])

/-! ### The bits of the frame (R151, R152) -/

theorem rxSample_samples (n : Fin 8) (h : S.clk = true) :
    QuietlyBecomes u
      { s.dev u with byte := setByteBit (s.dev u).byte n S.data, phase := .bitw, stamp := now } (s.slot u) s
      (rxSample n u S now s) := by
  rw [rxSample, if_pos h]
  exact (updDev_becomes u _ s).setPhase .bitw now

theorem rxSample_waits (n : Fin 8) (h : S.clk = false) : rxSample n u S now s = s := if_neg (by simp [h])

theorem rxAdvance_advances (n : Fin 8) (h : S.clk = false) :
    QuietlyBecomes u { s.dev u with cursor := n + 1, phase := .bit, stamp := now } (s.slot u) s
      (rxAdvance n u S now s) := by
  rw [rxAdvance, if_pos (by simp [h])]
  exact startBit_becomes (n + 1) u now s

theorem rxAdvance_waits (n : Fin 8) (h : S.clk = true) : rxAdvance n u S now s = s := if_neg (by simp [h])

/-! ### The complete address byte (R153, 30_encoding.md R77) -/

/-- The bytes that concern unit `u` are its own LISTEN and TALK and the two broadcasts. -/
theorem pClass_ne_other_iff {p : Byte} : pClass p u ≠ .other ↔
    p.toNat = 0x20 + u.val ∨ p.toNat = 0x40 + u.val ∨ p = 0x3F#8 ∨ p = 0x5F#8 := by
  constructor
  · contrapose!
    rintro ⟨hlisten, htalk, hunlisten, huntalk⟩
    rw [pClass, if_neg hlisten, if_neg htalk, if_neg hunlisten, if_neg huntalk]
  · rintro (h | h | rfl | rfl)
    · rw [pClass_listenMe h]; decide
    · rw [pClass_talkMe h]; decide
    · rw [pClass_unlisten]; decide
    · rw [pClass_untalk]; decide

theorem byteDoneAtn_acknowledges (h : pClass (captureByte (s.dev u)).primary u ≠ .other) :
    QuietlyBecomes u { captureByte (s.dev u) with phase := .pre1, stamp := now } ⟨false, true⟩ s
      (byteDoneAtn u now s) := by
  rw [byteDoneAtn_eq, if_pos (bne_iff_ne.mpr h)]
  exact ((updDev_becomes u captureByte s).fabricWrite false true).setPhase .pre1 now

theorem byteDoneAtn_ignores (h : pClass (captureByte (s.dev u)).primary u = .other) :
    QuietlyBecomes u { captureByte (s.dev u) with phase := .done1, stamp := now } (s.slot u) s
      (byteDoneAtn u now s) := by
  rw [byteDoneAtn_eq, if_neg (by simp [h])]
  exact (updDev_becomes u captureByte s).setPhase .done1 now

theorem rxCompleteAtn_of_clkLow (h : S.clk = false) : rxCompleteAtn u S now s = byteDoneAtn u now s :=
  if_pos (by simp [h])

theorem rxCompleteAtn_waits (h : S.clk = true) : rxCompleteAtn u S now s = s := if_neg (by simp [h])

/-! ### The complete data byte (R154, 45_dispatcher.md R194) -/

/-- The call by which a listener delivers the byte it has received. -/
def deliveryCall (s : State) (u : UnitNo) : DispCall := .write u (s.channel u) (s.dev u).byte

theorem byteDoneListen_eq (u : UnitNo) (now : Clock) (s : State) : byteDoneListen u now s =
    if (s.answerTo (deliveryCall s u)).status = 0#8 then
      ((s.dispatch (deliveryCall s u)).fabricWrite u false true).setPhase u .pre1 now
    else (s.dispatch (deliveryCall s u)).setPhase u .done1 now := rfl

theorem deliveryCall_calls (s : State) (u : UnitNo) :
    UnitCalls u (deliveryCall s u) (s.dev u) (s.slot u) s (s.dispatch (deliveryCall s u)) :=
  dispatch_calls (DispCall.unit_write u _ _)

/-- The call is made before its status is looked at. -/
theorem byteDoneListen_oneCall (u : UnitNo) (now : Clock) (s : State) :
    OneCall (deliveryCall s u) s (byteDoneListen u now s) := by
  have hone := (deliveryCall_calls s u).1
  rw [byteDoneListen_eq]
  split
  · exact hone
  · exact hone

theorem byteDoneListen_acknowledges (h : (s.answerTo (deliveryCall s u)).status = 0#8) :
    UnitBecomes u
      { latched (s.dev u) (s.channel u) (s.answerTo (deliveryCall s u)).status with
        phase := .pre1, stamp := now }
      ⟨false, true⟩ s (byteDoneListen u now s) := by
  have hbecomes := (deliveryCall_calls s u).2
  rw [byteDoneListen_eq, if_pos h]
  exact (hbecomes.fabricWrite false true).setPhase .pre1 now

theorem byteDoneListen_rejects (h : (s.answerTo (deliveryCall s u)).status ≠ 0#8) :
    UnitBecomes u
      { latched (s.dev u) (s.channel u) (s.answerTo (deliveryCall s u)).status with
        phase := .done1, stamp := now }
      (s.slot u) s (byteDoneListen u now s) := by
  have hbecomes := (deliveryCall_calls s u).2
  rw [byteDoneListen_eq, if_neg h]
  exact hbecomes.setPhase .done1 now

theorem rxCompleteListen_of_clkLow (h : S.clk = false) : rxCompleteListen u S now s = byteDoneListen u now s :=
  if_pos (by simp [h])

theorem rxCompleteListen_waits (h : S.clk = true) : rxCompleteListen u S now s = s := if_neg (by simp [h])

end rules

end Sys2Proof.Machine
end

-- ==== Proofs of the receive family (43_byte_receive.md): the rows of a receiving unit ====
section

namespace Sys2Proof.Machine

/-! ### The row of a receiver's own phase is the one that acts (R145) -/

section selected

variable {s : State} {x : StepCtx} {ua : Bool} {k : Nat}

theorem Receiving.selectsRx (h : Receiving s x ua) (hcode : phaseCode (s.dev x.unit).phase (s.dev x.unit).cursor = k) :
    (s.dev x.unit).selectsRx x.snap k = true := by
  obtain ⟨-, -, hatn, hsnap, hlisten⟩ := h
  have hedge : (s.dev x.unit).atn = !x.snap.atn := by rw [hatn, hsnap, Bool.not_not]
  have hregime : (s.dev x.unit).atn = true ∨ (s.dev x.unit).listening = true := by
    cases ua
    · exact .inr (hlisten rfl)
    · exact .inl hatn
  simp [DeviceState.selectsRx, receives_of_receiver hedge hregime, hcode]

theorem Receiving.rowStep_eq {sel : Bool} (h : Receiving s x ua) (body : State → State) (hsel : sel = true) :
    rowStep x sel body s = .next (body s) := by
  obtain ⟨hu, hc, -⟩ := h
  exact rowStep_selected hu hc hsel

theorem Receiving.rxRow_eq (h : Receiving s x ua) (body : State → State)
    (hcode : phaseCode (s.dev x.unit).phase (s.dev x.unit).cursor = k) :
    rxRow k x body s = .next (body s) :=
  h.rowStep_eq body (h.selectsRx hcode)

/-- The rows of the phases that have no cursor. -/
theorem Receiving.rxRow_of_phase {p : Phase} (h : Receiving s x ua) (body : State → State)
    (hphase : (s.dev x.unit).phase = p) (hcode : ∀ n, phaseCode p n = k) : rxRow k x body s = .next (body s) :=
  h.rxRow_eq body (by rw [hphase, hcode])

/-- The two rows with code 20, of which the regime selects one (R152). -/
theorem Receiving.selects_bitw7 (h : Receiving s x ua) (hphase : (s.dev x.unit).phase = .bitw)
    (hcursor : (s.dev x.unit).cursor = 7) : (s.dev x.unit).selectsRx x.snap 20 = true :=
  h.selectsRx (by rw [hphase, hcursor]; rfl)

theorem Receiving.exec_rxBitw7Atn (h : Receiving s x true) (hphase : (s.dev x.unit).phase = .bitw)
    (hcursor : (s.dev x.unit).cursor = 7) :
    exec (.rxBitw7Atn x) s = .next (rxCompleteAtn x.unit x.snap x.now s) := by
  have hsel := h.selects_bitw7 hphase hcursor
  obtain ⟨-, -, hatn, -⟩ := id h
  exact h.rowStep_eq _ (by simp [hsel, hatn])

theorem Receiving.exec_rxBitw7Listen (h : Receiving s x false) (hphase : (s.dev x.unit).phase = .bitw)
    (hcursor : (s.dev x.unit).cursor = 7) :
    exec (.rxBitw7Listen x) s = .next (rxCompleteListen x.unit x.snap x.now s) := by
  have hsel := h.selects_bitw7 hphase hcursor
  obtain ⟨-, -, hatn, -⟩ := id h
  exact h.rowStep_eq _ (by simp [hsel, hatn])

end selected

/-! ### The obligations -/

/-- Settles O41: PRE0 is left once the settle window is over. -/
theorem rxPre0Settles : Obligations.RxPre0Settles := fun _ _ _ h hphase =>
  ⟨_, h.rxRow_of_phase _ hphase fun _ => rfl, rxPre0_settled, rxPre0_waits⟩

/-- Settles O42: PRE1 looks at CLK alone. -/
theorem rxPre1AnswersReadyForData : Obligations.RxPre1AnswersReadyForData := fun _ _ _ h hphase =>
  ⟨_, h.rxRow_of_phase _ hphase fun _ => rfl, rxPre1_ready, rxPre1_waits⟩

/-- Settles O43: the row takes the regime from the unit's flag, which is the regime it receives in. -/
theorem rxReadyStartsFrameOrEoi : Obligations.RxReadyStartsFrameOrEoi := by
  intro s x ua h hphase
  have hexec : exec (.rxReady x) s = .next (rxReady x.unit x.snap x.now (s.dev x.unit).atn s) :=
    h.rxRow_of_phase _ hphase fun _ => rfl
  obtain ⟨-, -, rfl, -⟩ := h
  refine ⟨_, hexec, rxReady_startsFrame _, fun hclk hlisten htime => ?_, rxReady_waits⟩
  rw [hlisten]
  exact rxReady_eoi hclk htime

/-- Settles O44: EOI looks at the time alone, EOIW at CLK alone. -/
theorem rxEoiPulseThenFrame : Obligations.RxEoiPulseThenFrame := fun _ _ _ h =>
  ⟨fun hphase => ⟨_, h.rxRow_of_phase _ hphase fun _ => rfl, rxEoi_released, rxEoi_holds⟩,
   fun hphase => ⟨_, h.rxRow_of_phase _ hphase fun _ => rfl, rxEoiw_startsFrame, rxEoiw_waits⟩⟩

/-- Settles O45: the eight rows are one rule at their cursor, and the register write changes that bit only. -/
theorem rxBitSamplesOneBit : Obligations.RxBitSamplesOneBit := by
  intro s x ua n h hphase hcursor
  refine ⟨_, (exec_rxBit x s n).trans (h.rxRow_eq _ (by rw [hphase, hcursor]; rfl)), fun hclk => ?_,
    rxSample_waits n⟩
  exact ⟨_, rxSample_samples n hclk, fun k => byteBit_setByteBit _ n k _⟩

/-- Settles O46: the seven rows are one rule at their cursor, which does not wrap below 7. -/
theorem rxBitwAdvances : Obligations.RxBitwAdvances := by
  intro s x ua n h hphase hcursor
  have hn : (s.dev x.unit).cursor = n.castSucc := Fin.ext hcursor
  refine ⟨_, (exec_rxBitw x s n).trans (h.rxRow_eq _ (by rw [hphase, hn]; rfl)), fun hclk => ?_,
    rxAdvance_waits n.castSucc⟩
  exact ⟨n.castSucc + 1, Fin.val_add_one_of_lt (Fin.castSucc_lt_last n), rxAdvance_advances n.castSucc hclk⟩

/-- Settles O47: the captured byte concerns the unit iff its class is not `other`, and that class decides the
acknowledge. -/
theorem rxByteCompleteUnderAtn : Obligations.RxByteCompleteUnderAtn := by
  intro s x h hphase hcursor
  refine ⟨_, h.exec_rxBitw7Atn hphase hcursor, fun hclk hmine => ?_, fun hclk hother => ?_, rxCompleteAtn_waits⟩
  · rw [rxCompleteAtn_of_clkLow hclk]
    exact byteDoneAtn_acknowledges (pClass_ne_other_iff.mpr hmine)
  · rw [rxCompleteAtn_of_clkLow hclk]
    exact byteDoneAtn_ignores (not_not.mp (mt pClass_ne_other_iff.mp hother))

/-- Settles O48: the byte is delivered whatever the answer, and the answer decides the acknowledge. -/
theorem rxByteCompleteWhileListening : Obligations.RxByteCompleteWhileListening := by
  intro s x h hphase hcursor
  refine ⟨_, h.exec_rxBitw7Listen hphase hcursor, fun hclk => ?_, rxCompleteListen_waits⟩
  rw [rxCompleteListen_of_clkLow hclk]
  exact ⟨byteDoneListen_oneCall x.unit x.now s, byteDoneListen_acknowledges, byteDoneListen_rejects⟩

/-- Settles O49: the four rows are selected, and their rule is to wait. -/
theorem rxTerminalRowsDoNothing : Obligations.RxTerminalRowsDoNothing := fun _ _ _ h =>
  ⟨fun hphase => h.rxRow_of_phase rxTerminal hphase fun _ => rfl,
   fun hphase => h.rxRow_of_phase rxTerminal hphase fun _ => rfl,
   fun hphase => h.rxRow_of_phase rxTerminal hphase fun _ => rfl,
   fun hphase => h.rxRow_of_phase rxTerminal hphase fun _ => rfl⟩

end Sys2Proof.Machine
end

-- ==== Proofs of the transmit family (44_byte_transmit.md): the rules, phase by phase ====
section

namespace Sys2Proof.Machine

/-! ### An assignment after what was done before -/

section becomes

variable {u : UnitNo} {d : DeviceState} {w : Slot} {s t : State}

theorem UnitBecomes.updDev (h : UnitBecomes u d w s t) (f : DeviceState → DeviceState) :
    UnitBecomes u (f d) w s (t.updDev u f) := by
  obtain ⟨hframe, rfl, rfl⟩ := h
  exact ⟨hframe.trans (.updDev u f t), State.dev_updDev_self t u f, State.slot_updDev t u u f⟩

theorem QuietlyBecomes.updDev (h : QuietlyBecomes u d w s t) (f : DeviceState → DeviceState) :
    QuietlyBecomes u (f d) w s (t.updDev u f) :=
  ⟨h.1.updDev f, h.2⟩

/-- A talker that leaves its regime releases both lines and is idle (R174, R180). -/
theorem UnitBecomes.stopTalking (h : UnitBecomes u d w s t) (now : Clock) :
    UnitBecomes u { d with talking := false, phase := .pre0, stamp := now } ⟨false, false⟩ s
      (((t.updDev u fun d => { d with talking := false }).fabricWrite u false false).setPhase u .pre0 now) :=
  ((h.updDev fun d => { d with talking := false }).fabricWrite false false).setPhase .pre0 now

end becomes

section rules

variable {u : UnitNo} {S : Snapshot} {now : Clock} {s : State}

/-- The branch of a guarded rule that writes the drive of the phase it enters. -/
theorem enterPhase_becomes_of {c : Prop} [Decidable c] (hc : c) {cl dl : Bool} {p : Phase} :
    QuietlyBecomes u { s.dev u with phase := p, stamp := now } ⟨cl, dl⟩ s
      (if c then (s.fabricWrite u cl dl).setPhase u p now else s) := by
  rw [if_pos hc]
  exact enterPhase_becomes u cl dl p now s

/-- The talker writes its drive and goes to the set-up of bit `n`. -/
theorem driveThenBit_becomes (u : UnitNo) (cl dl : Bool) (n : Fin 8) (now : Clock) (s : State) :
    QuietlyBecomes u { s.dev u with cursor := n, phase := .bit, stamp := now } ⟨cl, dl⟩ s
      (((s.fabricWrite u cl dl).updDev u fun d => { d with cursor := n }).setPhase u .bit now) :=
  ((fabricWrite_becomes u cl dl s).updDev fun d => { d with cursor := n }).setPhase .bit now

/-! ### Before the bits (R165, R166) -/

theorem txPre0_takesClk (hdata : S.data = false) (hclk : S.clk = true) :
    QuietlyBecomes u { s.dev u with phase := .pre1, stamp := now } ⟨true, false⟩ s (txPre0 u S now s) :=
  enterPhase_becomes_of (by simp [hdata, hclk])

theorem txPre0_waits (h : S.data = true ∨ S.clk = false) : txPre0 u S now s = s := by
  refine if_neg ?_
  obtain hdata | hclk := h
  · simp [hdata]
  · simp [hclk]

theorem txPre1_settled (h : s.cfg.tTxSettle ≤ s.elapsed u now) :
    QuietlyBecomes u { s.dev u with phase := .ready, stamp := now } ⟨false, false⟩ s (txPre1 u now s) :=
  enterPhase_becomes_of h

theorem txPre1_waits (h : s.elapsed u now < s.cfg.tTxSettle) : txPre1 u now s = s :=
  if_neg (Nat.not_le.mpr h)

/-! ### The fetch of a byte (R167, R180, 45_dispatcher.md R195) -/

theorem stClass_zero (cfg : Config) : stClass cfg 0#8 = .ok := if_pos rfl

theorem stClass_statusEoi {cfg : Config} (h : cfg.statusEoi ≠ 0#8) : stClass cfg cfg.statusEoi = .eoi := by
  rw [stClass, if_neg h, if_pos rfl]

theorem stClass_error {cfg : Config} {st : Byte} (hok : st ≠ 0#8) (heoi : st ≠ cfg.statusEoi) :
    stClass cfg st = .error := by
  rw [stClass, if_neg hok, if_neg heoi]

/-- The call by which a talker fetches the byte it is to send. -/
def fetchCall (s : State) (u : UnitNo) : DispCall := .read u (s.channel u)

/-- What the Dispatcher answers to that call. -/
def fetchAnswer (s : State) (u : UnitNo) : Answer := s.answerTo (fetchCall s u)

/-- What READY does with the answer, by the class of its status. -/
def afterFetch (u : UnitNo) (now : Clock) (b : Byte) (c : StClass) (t : State) : State :=
  match c with
  | .ok    => (t.updDev u fun d => { d with byte := b, cursor := 0 }).setPhase u .bit now
  | .eoi   => (t.updDev u fun d => { d with byte := b }).setPhase u .eoi now
  | .error => ((t.updDev u fun d => { d with talking := false }).fabricWrite u false false).setPhase u .pre0 now

theorem txReady_of_dataHigh (h : S.data = true) : txReady u S now s =
    afterFetch u now (fetchAnswer s u).byte (stClass s.cfg (fetchAnswer s u).status)
      (s.dispatch (fetchCall s u)) := by
  rw [txReady, if_pos h]
  rfl

theorem txReady_waits (h : S.data = false) : txReady u S now s = s := if_neg (by simp [h])

theorem afterFetch_noCall (u : UnitNo) (now : Clock) (b : Byte) (c : StClass) (t : State) :
    NoCall t (afterFetch u now b c t) := by
  cases c with
  | ok | eoi | error => exact ⟨rfl, rfl⟩

theorem fetchCall_calls (s : State) (u : UnitNo) :
    UnitCalls u (fetchCall s u) (s.dev u) (s.slot u) s (s.dispatch (fetchCall s u)) :=
  dispatch_calls (DispCall.unit_read u _)

/-- The call is made before its status is looked at. -/
theorem txReady_oneCall (h : S.data = true) : OneCall (fetchCall s u) s (txReady u S now s) := by
  obtain ⟨hcalls, hanswers⟩ := (fetchCall_calls s u).1
  rw [txReady_of_dataHigh h]
  obtain ⟨kcalls, kanswers⟩ := afterFetch_noCall u now (fetchAnswer s u).byte
    (stClass s.cfg (fetchAnswer s u).status) (s.dispatch (fetchCall s u))
  exact ⟨kcalls.trans hcalls, kanswers.trans hanswers⟩

theorem txReady_sends (h : S.data = true) (hok : (fetchAnswer s u).status = 0#8) :
    UnitBecomes u
      { latched (s.dev u) (s.channel u) (fetchAnswer s u).status with
        byte := (fetchAnswer s u).byte, cursor := 0, phase := .bit, stamp := now }
      (s.slot u) s (txReady u S now s) := by
  have hfetch := (fetchCall_calls s u).2
  have hclass : stClass s.cfg (fetchAnswer s u).status = .ok := by rw [hok, stClass_zero]
  rw [txReady_of_dataHigh h, hclass]
  exact (hfetch.updDev fun d => { d with byte := (fetchAnswer s u).byte, cursor := 0 }).setPhase .bit now

theorem txReady_holdsForEoi (h : S.data = true) (hok : (fetchAnswer s u).status ≠ 0#8)
    (heoi : (fetchAnswer s u).status = s.cfg.statusEoi) :
    UnitBecomes u
      { latched (s.dev u) (s.channel u) (fetchAnswer s u).status with
        byte := (fetchAnswer s u).byte, phase := .eoi, stamp := now }
      (s.slot u) s (txReady u S now s) := by
  have hfetch := (fetchCall_calls s u).2
  have hclass : stClass s.cfg (fetchAnswer s u).status = .eoi := by
    rw [heoi]
    exact stClass_statusEoi (heoi ▸ hok)
  rw [txReady_of_dataHigh h, hclass]
  exact (hfetch.updDev fun d => { d with byte := (fetchAnswer s u).byte }).setPhase .eoi now

/-- The byte that comes with an error status is not stored (R180). -/
theorem txReady_abandons (h : S.data = true) (hok : (fetchAnswer s u).status ≠ 0#8)
    (heoi : (fetchAnswer s u).status ≠ s.cfg.statusEoi) :
    UnitBecomes u
      { latched (s.dev u) (s.channel u) (fetchAnswer s u).status with
        talking := false, phase := .pre0, stamp := now }
      ⟨false, false⟩ s (txReady u S now s) := by
  have hfetch := (fetchCall_calls s u).2
  rw [txReady_of_dataHigh h, stClass_error hok heoi]
  exact hfetch.stopTalking now

/-! ### The EOI hold (R168, R169) -/

theorem txEoi_answered (h : S.data = false) :
    QuietlyBecomes u { s.dev u with phase := .eoiw, stamp := now } (s.slot u) s (txEoi u S now s) := by
  rw [txEoi, if_pos (by simp [h])]
  exact setPhase_becomes u .eoiw now s

theorem txEoi_waits (h : S.data = true) : txEoi u S now s = s := if_neg (by simp [h])

theorem txEoiw_sends (h : S.data = true) :
    QuietlyBecomes u { s.dev u with cursor := 0, phase := .bit, stamp := now } (s.slot u) s
      (txEoiw u S now s) := by
  rw [txEoiw, if_pos h]
  exact startBit_becomes 0 u now s

theorem txEoiw_waits (h : S.data = false) : txEoiw u S now s = s := if_neg (by simp [h])

/-! ### The bits (R171, R172) -/

theorem txSetup_setsUp (n : Fin 8) (h : s.cfg.tBit ≤ s.elapsed u now) :
    QuietlyBecomes u { s.dev u with phase := .bitw, stamp := now } ⟨true, !byteBit (s.dev u).byte n⟩ s
      (txSetup n u now s) :=
  enterPhase_becomes_of h

theorem txSetup_waits (n : Fin 8) (h : s.elapsed u now < s.cfg.tBit) : txSetup n u now s = s :=
  if_neg (Nat.not_le.mpr h)

theorem txValid_advances {n : Fin 8} (hn : n.val < 7) (h : s.cfg.tBit ≤ s.elapsed u now) :
    QuietlyBecomes u { s.dev u with cursor := n + 1, phase := .bit, stamp := now }
      ⟨false, !byteBit (s.dev u).byte n⟩ s (txValid n u now s) := by
  rw [txValid, if_pos h, if_pos hn]
  exact driveThenBit_becomes u false _ (n + 1) now s

theorem txValid_endsBits (h : s.cfg.tBit ≤ s.elapsed u now) :
    QuietlyBecomes u { s.dev u with phase := .done0, stamp := now } ⟨false, !byteBit (s.dev u).byte 7⟩ s
      (txValid 7 u now s) :=
  enterPhase_becomes_of h

theorem txValid_waits (n : Fin 8) (h : s.elapsed u now < s.cfg.tBit) : txValid n u now s = s :=
  if_neg (Nat.not_le.mpr h)

/-! ### After the eighth bit (R173 to R177) -/

theorem txDone0_endsFrame (h : s.cfg.tBit ≤ s.elapsed u now) :
    QuietlyBecomes u { s.dev u with phase := .done1, stamp := now } ⟨true, false⟩ s (txDone0 u now s) :=
  enterPhase_becomes_of h

theorem txDone0_waits (h : s.elapsed u now < s.cfg.tBit) : txDone0 u now s = s := if_neg (Nat.not_le.mpr h)

/-- The acknowledge is tested first, so the time does not matter (R174). -/
theorem txDone1_of_dataLow (h : S.data = false) : txDone1 u S now s =
    if s.statusOf u (s.channel u) = s.cfg.statusEoi then
      ((s.updDev u fun d => { d with talking := false }).fabricWrite u false false).setPhase u .pre0 now
    else s.setPhase u .pre1 now :=
  if_pos (by simp [h])

theorem txDone1_of_dataHigh (h : S.data = true) : txDone1 u S now s =
    if s.cfg.tAck ≤ s.elapsed u now then (s.fabricWrite u false false).setPhase u .retry0 now else s :=
  if_neg (by simp [h])

theorem txDone1_finalByte (h : S.data = false) (heoi : s.statusOf u (s.channel u) = s.cfg.statusEoi) :
    QuietlyBecomes u { s.dev u with talking := false, phase := .pre0, stamp := now } ⟨false, false⟩ s
      (txDone1 u S now s) := by
  rw [txDone1_of_dataLow h, if_pos heoi]
  exact ⟨.stopTalking ⟨.refl u s, rfl, rfl⟩ now, rfl, rfl⟩

theorem txDone1_nextByte (h : S.data = false) (heoi : s.statusOf u (s.channel u) ≠ s.cfg.statusEoi) :
    QuietlyBecomes u { s.dev u with phase := .pre1, stamp := now } (s.slot u) s (txDone1 u S now s) := by
  rw [txDone1_of_dataLow h, if_neg heoi]
  exact setPhase_becomes u .pre1 now s

theorem txDone1_timesOut (h : S.data = true) (htime : s.cfg.tAck ≤ s.elapsed u now) :
    QuietlyBecomes u { s.dev u with phase := .retry0, stamp := now } ⟨false, false⟩ s (txDone1 u S now s) := by
  rw [txDone1_of_dataHigh h]
  exact enterPhase_becomes_of htime

theorem txDone1_waits (h : S.data = true) (htime : s.elapsed u now < s.cfg.tAck) : txDone1 u S now s = s := by
  rw [txDone1_of_dataHigh h]
  exact if_neg (Nat.not_le.mpr htime)

theorem txRetry0_lowersClk (h : s.cfg.tRetry ≤ s.elapsed u now) :
    QuietlyBecomes u { s.dev u with phase := .retry1, stamp := now } ⟨true, false⟩ s (txRetry0 u now s) :=
  enterPhase_becomes_of h

theorem txRetry0_waits (h : s.elapsed u now < s.cfg.tRetry) : txRetry0 u now s = s :=
  if_neg (Nat.not_le.mpr h)

theorem txRetry1_resends (h : s.cfg.tRetry ≤ s.elapsed u now) :
    QuietlyBecomes u { s.dev u with cursor := 0, phase := .bit, stamp := now } ⟨false, false⟩ s
      (txRetry1 u now s) := by
  rw [txRetry1, if_pos h]
  exact driveThenBit_becomes u false false 0 now s

theorem txRetry1_waits (h : s.elapsed u now < s.cfg.tRetry) : txRetry1 u now s = s :=
  if_neg (Nat.not_le.mpr h)

end rules

end Sys2Proof.Machine
end

-- ==== Proofs of the transmit family (44_byte_transmit.md): the byte a talker keeps ====
section

namespace Sys2Proof.Machine

/-- From `s` to `t` no Dispatcher call was made, and unit `u` has kept its byte and its status table (R179). -/
structure KeepsByte (u : UnitNo) (s t : State) : Prop where
  noCall : NoCall s t
  byte : (t.dev u).byte = (s.dev u).byte
  status : (t.dev u).status = (s.dev u).status

section keeps

variable {u : UnitNo} {s t r : State}

/-! ### The operations other than a call keep it -/

theorem KeepsByte.refl : KeepsByte u s s := ⟨.refl s, rfl, rfl⟩

theorem KeepsByte.ite {c : Prop} [Decidable c] (ht : KeepsByte u s t) (hr : KeepsByte u s r) :
    KeepsByte u s (if c then t else r) := by
  split
  exacts [ht, hr]

theorem KeepsByte.updDev {f : DeviceState → DeviceState} (h : KeepsByte u s t)
    (hf : ∀ d, (f d).byte = d.byte ∧ (f d).status = d.status := by exact fun _ => ⟨rfl, rfl⟩) :
    KeepsByte u s (t.updDev u f) := by
  obtain ⟨hbyte, hstatus⟩ := hf (t.dev u)
  exact ⟨h.noCall, by rw [State.dev_updDev_self, hbyte, h.byte], by rw [State.dev_updDev_self, hstatus, h.status]⟩

theorem KeepsByte.fabricWrite {cl dl : Bool} (h : KeepsByte u s t) : KeepsByte u s (t.fabricWrite u cl dl) :=
  ⟨h.noCall, h.byte, h.status⟩

theorem KeepsByte.setPhase {p : Phase} {now : Clock} (h : KeepsByte u s t) : KeepsByte u s (t.setPhase u p now) :=
  h.updDev

/-! ### Every transmit rule but the fetch is made of them -/

theorem txStep_keepsByte {S : Snapshot} {now : Clock} (hphase : (s.dev u).phase ≠ .ready) :
    KeepsByte u s (txStep u S now s) := by
  unfold txStep
  cases hp : (s.dev u).phase <;> dsimp only
  case pre0 => exact .ite (.setPhase (.fabricWrite .refl)) .refl
  case pre1 => exact .ite (.setPhase (.fabricWrite .refl)) .refl
  case ready => exact absurd hp hphase
  case eoi => exact .ite (.setPhase .refl) .refl
  case eoiw => exact .ite (.setPhase (.updDev .refl)) .refl
  case bit => exact .ite (.setPhase (.fabricWrite .refl)) .refl
  case bitw => exact .ite (.ite (.setPhase (.updDev (.fabricWrite .refl))) (.setPhase (.fabricWrite .refl))) .refl
  case done0 => exact .ite (.setPhase (.fabricWrite .refl)) .refl
  case done1 =>
    exact .ite (.ite (.setPhase (.fabricWrite (.updDev .refl))) (.setPhase .refl))
      (.ite (.setPhase (.fabricWrite .refl)) .refl)
  case retry0 => exact .ite (.setPhase (.fabricWrite .refl)) .refl
  case retry1 => exact .ite (.setPhase (.updDev (.fabricWrite .refl))) .refl

end keeps

end Sys2Proof.Machine
end

-- ==== Proofs of the transmit family (44_byte_transmit.md): the rows of a talker ====
section

namespace Sys2Proof.Machine

/-! ### The row of a talker's own phase is the one that acts (R163) -/

section selected

variable {s : State} {x : StepCtx} {k : Nat}

theorem Transmitting.noEdge (h : Transmitting s x) : (s.dev x.unit).atn = !x.snap.atn := by
  obtain ⟨-, -, hatn, hsnap, -⟩ := h
  rw [hatn, hsnap, Bool.not_true]

theorem Transmitting.regime (h : Transmitting s x) : (s.dev x.unit).regime = .talking := by
  obtain ⟨-, -, hatn, -, hlisten, htalk⟩ := h
  exact regime_eq_talking.mpr ⟨hatn, hlisten, htalk⟩

theorem Transmitting.unitStep_eq (h : Transmitting s x) :
    unitStep x.unit x.snap x.now s = txStep x.unit x.snap x.now s :=
  unitStep_of_talker h.noEdge h.regime

theorem Transmitting.txRow_eq (h : Transmitting s x) (body : State → State)
    (hcode : phaseCode (s.dev x.unit).phase (s.dev x.unit).cursor = k) :
    txRow k x body s = .next (body s) := by
  have hsel : (s.dev x.unit).selectsTx x.snap k = true := by
    simp [DeviceState.selectsTx, transmits_of_talker h.noEdge h.regime, hcode]
  obtain ⟨hu, hc, -⟩ := h
  exact rowStep_selected hu hc hsel

/-- The rows of the phases that have no cursor. -/
theorem Transmitting.txRow_of_phase {p : Phase} (h : Transmitting s x) (body : State → State)
    (hphase : (s.dev x.unit).phase = p) (hcode : ∀ n, phaseCode p n = k) : txRow k x body s = .next (body s) :=
  h.txRow_eq body (by rw [hphase, hcode])

end selected

/-! ### The obligations -/

/-- Settles O50: the two line levels are read from one snapshot. -/
theorem txPre0WaitsForTurnAround : Obligations.TxPre0WaitsForTurnAround := fun _ _ h hphase =>
  ⟨_, h.txRow_of_phase _ hphase fun _ => rfl, txPre0_takesClk, txPre0_waits⟩

/-- Settles O51: PRE1 looks at the time alone. -/
theorem txPre1ReadyToSend : Obligations.TxPre1ReadyToSend := fun _ _ h hphase =>
  ⟨_, h.txRow_of_phase _ hphase fun _ => rfl, txPre1_settled, txPre1_waits⟩

/-- Settles O52: the byte is fetched whatever the answer, and the class of its status decides what follows. -/
theorem txReadyFetchesOneByte : Obligations.TxReadyFetchesOneByte := fun _ _ h hphase =>
  ⟨_, h.txRow_of_phase _ hphase fun _ => rfl,
   fun hdata => ⟨txReady_oneCall hdata, txReady_sends hdata, txReady_holdsForEoi hdata, txReady_abandons hdata⟩,
   txReady_waits⟩

/-- Settles O53: both phases look at DATA alone. -/
theorem txEoiHold : Obligations.TxEoiHold := fun _ _ h =>
  ⟨fun hphase => ⟨_, h.txRow_of_phase _ hphase fun _ => rfl, txEoi_answered, txEoi_waits⟩,
   fun hphase => ⟨_, h.txRow_of_phase _ hphase fun _ => rfl, txEoiw_sends, txEoiw_waits⟩⟩

/-- Settles O54: the eight rows are one rule at their cursor. -/
theorem txBitSetsUpOneBit : Obligations.TxBitSetsUpOneBit := fun s x n h hphase hcursor =>
  ⟨_, (exec_txBit x s n).trans (h.txRow_eq _ (by rw [hphase, hcursor]; rfl)), txSetup_setsUp n, txSetup_waits n⟩

/-- Settles O55: the eight rows are one rule at their cursor, which has a next position below 7 only. -/
theorem txBitwRaisesClock : Obligations.TxBitwRaisesClock := by
  intro s x n h hphase hcursor
  refine ⟨_, (exec_txBitw x s n).trans (h.txRow_eq _ (by rw [hphase, hcursor]; rfl)),
    fun htime => ⟨fun next hnext => ?_, ?_⟩, txValid_waits n⟩
  · have hn : n < 7 := by omega
    obtain rfl : next = n + 1 := Fin.ext (hnext.trans (Fin.val_add_one_of_lt hn).symm)
    exact txValid_advances hn htime
  · rintro rfl
    exact txValid_endsBits htime

/-- Settles O56: DONE0 looks at the time alone. -/
theorem txDone0EndsTheFrame : Obligations.TxDone0EndsTheFrame := fun _ _ h hphase =>
  ⟨_, h.txRow_of_phase _ hphase fun _ => rfl, txDone0_endsFrame, txDone0_waits⟩

/-- Settles O57: DATA is looked at before the time. -/
theorem txDone1AcknowledgeOrTimeout : Obligations.TxDone1AcknowledgeOrTimeout := fun _ _ h hphase =>
  ⟨_, h.txRow_of_phase _ hphase fun _ => rfl, txDone1_finalByte, txDone1_nextByte, txDone1_timesOut, txDone1_waits⟩

/-- Settles O58: the two halves of the pulse look at the time alone, and the second starts the bits again. -/
theorem txRetryPulseAndResend : Obligations.TxRetryPulseAndResend := fun _ _ h =>
  ⟨fun hphase => ⟨_, h.txRow_of_phase _ hphase fun _ => rfl, txRetry0_lowersClk, txRetry0_waits⟩,
   fun hphase => ⟨_, h.txRow_of_phase _ hphase fun _ => rfl, txRetry1_resends, txRetry1_waits⟩⟩

/-- Settles O59: a talker's step is its transmit rule, and only READY's makes a call or writes the byte. -/
theorem talkerKeepsItsByteOutsideReady : Obligations.TalkerKeepsItsByteOutsideReady := by
  intro s x h hphase
  rw [h.unitStep_eq]
  obtain ⟨hcall, hbyte, hstatus⟩ := txStep_keepsByte (S := x.snap) (now := x.now) hphase
  exact ⟨hcall, hbyte, hstatus⟩

end Sys2Proof.Machine
end

-- ==== Proofs of the Dispatcher family (45_dispatcher.md): EXEC, the lifecycle operations and the call rows ====
section

namespace Sys2Proof.Machine

/-! ### The calls of an instruction and their latches (45_dispatcher.md R190, R198, R199) -/

/-- From `s` to `t` the calls `new` were made, in ascending order of their units (the record keeps the newest first).
Each saw its unit's status table as it was in `s`, and the status it returned stands in its entry in `t`. -/
structure CallsLatched (new : List CallRecord) (s t : State) : Prop where
  calls : t.calls = new ++ s.calls
  ascending : (new.map fun k => k.call.unit).Pairwise (· > ·)
  seen : ∀ k ∈ new, k.table = (s.dev k.call.unit).status
  stands : ∀ k ∈ new, t.statusOf k.call.unit k.call.channel = k.answer.status

section calls

variable {u : UnitNo} {now : Clock} {s t r : State} {new later : List CallRecord}

theorem NoCall.callsLatched (h : NoCall s t) : CallsLatched [] s t := ⟨h.1, .nil, by simp, by simp⟩

/-- Later calls of higher units see tables that the earlier calls have not touched, and leave the entries of these
calls alone. -/
theorem CallsLatched.trans (h : CallsLatched new s t) (k : CallsLatched later t r)
    (hlt : ∀ a ∈ later, ∀ b ∈ new, b.call.unit < a.call.unit)
    (hseen : ∀ a ∈ later, t.dev a.call.unit = s.dev a.call.unit)
    (hstands : ∀ b ∈ new, r.dev b.call.unit = t.dev b.call.unit) : CallsLatched (later ++ new) s r where
  calls := by rw [k.calls, h.calls, List.append_assoc]
  ascending := by
    rw [List.map_append, List.pairwise_append]
    refine ⟨k.ascending, h.ascending, ?_⟩
    simpa only [List.forall_mem_map] using hlt
  seen e he := by
    obtain he | he := List.mem_append.mp he
    · rw [k.seen e he, hseen e he]
    · exact h.seen e he
  stands e he := by
    obtain he | he := List.mem_append.mp he
    · exact k.stands e he
    · rw [← h.stands e he, State.statusOf, State.statusOf, hstands e he]

/-! ### The action of one unit -/

/-- A run of operations on unit `u` in which at most one call is made. -/
structure UnitActs (u : UnitNo) (now : Clock) (s t : State) : Prop where
  run : UnitRun u now s t
  oneCall : AtMostOneCall u s t

theorem UnitActs.refl : UnitActs u now s s := ⟨.refl, .inl (.refl s)⟩

theorem UnitActs.ite {c : Prop} [Decidable c] (ht : UnitActs u now s t) (hr : UnitActs u now s r) :
    UnitActs u now s (if c then t else r) := by
  split
  exacts [ht, hr]

theorem statusOf_updDev {f : DeviceState → DeviceState} (hf : ∀ d, (f d).status = d.status) (v : UnitNo)
    (c : Channel) : (s.updDev u f).statusOf v c = s.statusOf v c := by
  by_cases hv : v = u
  · subst hv
    simp only [State.statusOf, State.dev_updDev_self, hf]
  · simp only [State.statusOf, State.dev_updDev_of_ne _ _ _ _ hv]

theorem statusOf_setPhase (p : Phase) (v : UnitNo) (c : Channel) :
    (s.setPhase u p now).statusOf v c = s.statusOf v c :=
  statusOf_updDev (f := fun d => { d with phase := p, stamp := now }) (fun _ => rfl) v c

/-- The newest call of a run is the last latch of its entry: the operations after it keep the status table. -/
theorem UnitRun.newest_stands (h : UnitRun u now s t) : t.calls = s.calls ∨
    ∃ k ∈ t.calls.head?, t.statusOf k.call.unit k.call.channel = k.answer.status := by
  induction h with
  | refl => exact .inl rfl
  | updDev _ hf ih => simpa only [State.updDev_calls, statusOf_updDev fun d => (hf d).2.1] using ih
  | fabricWrite _ ih => exact ih
  | setPhase _ ih => simpa only [State.setPhase_calls, statusOf_setPhase] using ih
  | dispatch _ _ _ => exact .inr ⟨_, rfl, by simp [State.statusOf]⟩

/-- The one call of a unit's action is its newest, so its status stands. -/
theorem UnitActs.callsLatched (h : UnitActs u now s t) :
    ∃ new, CallsLatched new s t ∧ ∀ k ∈ new, k.call.unit = u := by
  obtain hno | ⟨call, hu, hcalls, -⟩ := h.oneCall
  · exact ⟨[], hno.callsLatched, by simp⟩
  · refine ⟨[_], ⟨hcalls, by simp, by simp, ?_⟩, by simpa using hu⟩
    obtain hsame | ⟨k, hk, hstands⟩ := h.run.newest_stands
    · simp [hcalls] at hsame
    · rw [hcalls, List.head?_cons, Option.mem_some_iff] at hk
      subst hk
      simpa using hstands

theorem unitStep_acts (u : UnitNo) (S : Snapshot) (now : Clock) (s : State) :
    UnitActs u now s (unitStep u S now s) :=
  ⟨unitStep_run u now s S, unitStep_atMostOneCall u now s S⟩

end calls

/-! ### The calls of the loop (R202 (a), (b); 41_device_controller.md R118, R119) -/

/-- The steps of ascending units make their calls in that order, and the step of one unit reaches neither the table
nor the flag of another. -/
theorem stepUnits_callsLatched (S : Snapshot) (now : Clock) {us : List UnitNo} (hus : us.Pairwise (· < ·))
    (s : State) :
    ∃ new, CallsLatched new s (stepUnits S now us s) ∧
      ∀ k ∈ new, k.call.unit ∈ us ∧ (s.dev k.call.unit).enabled = true := by
  induction us generalizing s with
  | nil => exact ⟨[], (NoCall.refl s).callsLatched, by simp⟩
  | cons u us ih =>
    obtain ⟨hlower, hus⟩ := List.pairwise_cons.mp hus
    by_cases he : (s.dev u).enabled = true
    · have hu : u ∉ us := fun h => (hlower u h).false
      obtain ⟨new, hnew, hown⟩ := (unitStep_acts u S now s).callsLatched
      obtain ⟨later, hlater, hnames⟩ := ih hus (unitStep u S now s)
      have hothers (v : UnitNo) (hv : v ∈ us) : (unitStep u S now s).dev v = s.dev v :=
        ((unitStep_onlyUnits u S now s).others v (by simpa using (hlower v hv).ne')).1
      have hkept := ((stepUnits_onlyUnits S now us (unitStep u S now s)).others u hu).1
      rw [stepUnits, if_pos he]
      refine ⟨later ++ new, hnew.trans hlater (fun a ha b hb => ?_) (fun a ha => hothers _ (hnames a ha).1)
        (fun b hb => by rw [hown b hb, hkept]), fun k hk => ?_⟩
      · rw [hown b hb]
        exact hlower _ (hnames a ha).1
      · obtain hk | hk := List.mem_append.mp hk
        · obtain ⟨hmem, hen⟩ := hnames k hk
          exact ⟨.tail _ hmem, hothers _ hmem ▸ hen⟩
        · rw [hown k hk]
          exact ⟨.head _, he⟩
    · obtain ⟨new, hnew, hnames⟩ := ih hus s
      rw [stepUnits, if_neg he]
      exact ⟨new, hnew, fun k hk => (hnames k hk).imp_left (.tail _)⟩

theorem execExec_callsLatched {s t : State} {now : Clock} (h : execExec now s = .next t) :
    ∃ new, CallsLatched new s t ∧ ∀ k ∈ new, Stepped s k.call.unit := by
  obtain ⟨-, rfl⟩ | ⟨-, -, rfl⟩ := execExec_cases h
  · exact ⟨[], NoCall.callsLatched ⟨rfl, rfl⟩, by simp⟩
  · obtain ⟨new, ⟨hcalls, hasc, hseen, hstands⟩, hnames⟩ :=
      stepUnits_callsLatched s.fabricRead now (unitsOf_ascending s.cfg) s
    exact ⟨new, ⟨hcalls, hasc, hseen, hstands⟩, fun k hk => stepped_iff.mpr (hnames k hk)⟩

/-- Settles O23: the loop makes its calls in the order of its units, all of them enabled units of the block. -/
theorem execCallsAscendByUnit : Obligations.ExecCallsAscendByUnit := by
  intro s t now h
  obtain ⟨new, hnew, hstepped⟩ := execExec_callsLatched h
  exact ⟨new, hnew.calls, hnew.ascending, hstepped⟩

/-! ### The lifecycle operations (R202 (g)) -/

section lifecycle

variable {s t : State} {i : Int}

theorem initOnce_noCall (s : State) : NoCall s (initOnce s) := by
  rw [initOnce_frame]
  exact ⟨rfl, rfl⟩

theorem exec_enable_noCall (h : exec (.enable i) s = .next t) : NoCall s t := by
  cases hop : unitOperand s.cfg i with
  | none =>
    cases (exec_enable_of_not_inRange hop).symm.trans h
    exact ⟨rfl, rfl⟩
  | some u =>
    cases he : (s.dev u).enabled
    · cases (exec_enable_of_disabled hop he).symm.trans h
      exact (initOnce_noCall s).trans (clearUnit_becomes u (initOnce s)).2
    · cases (exec_enable_of_enabled hop he).symm.trans h
      exact initOnce_noCall s

theorem exec_disable_noCall (h : exec (.disable i) s = .next t) : NoCall s t := by
  cases hop : unitOperand s.cfg i with
  | none =>
    cases (exec_disable_of_not_inRange hop).symm.trans h
    exact .refl s
  | some u =>
    cases he : (s.dev u).enabled
    · cases (exec_disable_of_disabled hop he).symm.trans h
      exact .refl s
    · obtain ⟨r, hr, -, hno⟩ := exec_disable_of_enabled hop he
      cases hr.symm.trans h
      exact hno

theorem exec_reset_noCall (h : exec .reset s = .next t) : NoCall s t := by
  cases (exec_reset s).symm.trans h
  rw [foldl_clearIfEnabled_frame]
  exact ⟨rfl, rfl⟩

end lifecycle

/-- Settles O24: each of the five operations touches DeviceStates, slots and the controller's own bits only. -/
theorem lifecycleOperationsMakeNoCall : Obligations.LifecycleOperationsMakeNoCall := by
  rintro s t i (rfl | rfl | ⟨u, rfl⟩ | ⟨u, rfl⟩ | rfl) h
  · cases h
    exact .refl s
  · cases h
    exact initOnce_noCall s
  · exact exec_enable_noCall h
  · exact exec_disable_noCall h
  · exact exec_reset_noCall h

/-! ### The call rows (R190 to R198) -/

section callRows

variable {s : State} {call : DispCall}

theorem callAtPort_of_inRange (h : inRange s.cfg call.unit = true) : callAtPort call s = s.dispatch call := if_pos h

theorem callAtPort_of_not_inRange (h : inRange s.cfg call.unit = false) : callAtPort call s = s :=
  if_neg (Bool.eq_false_iff.mp h)

/-- All that a row which is a Dispatcher call issued at the port does. -/
theorem callMade_of_exec_eq_callAtPort {i : Instr} (h : exec i s = .next (callAtPort call s)) :
    ∃ t, exec i s = .next t ∧
      (inRange s.cfg call.unit = true → OneCall call s t ∧
        UnitBecomes call.unit (latched (s.dev call.unit) call.channel (s.answerTo call).status)
          (s.slot call.unit) s t) ∧
      (inRange s.cfg call.unit = false → t = s) := by
  refine ⟨_, h, fun hin => ?_, callAtPort_of_not_inRange⟩
  rw [callAtPort_of_inRange hin]
  exact (dispatch_becomes call s).symm

end callRows

/-- Settles O39: each of the seven rows is its call at the port. -/
theorem dispatcherCallsAreRecordedAndLatched : Obligations.DispatcherCallsAreRecordedAndLatched := by
  intro s u c b
  exact
    ⟨callMade_of_exec_eq_callAtPort (call := .openCall u c) rfl,
    callMade_of_exec_eq_callAtPort (call := .closeCall u c) rfl,
    callMade_of_exec_eq_callAtPort (call := .channelCommand u c) rfl,
    callMade_of_exec_eq_callAtPort (call := .write u c b) rfl,
    callMade_of_exec_eq_callAtPort (call := .read u c) rfl,
    callMade_of_exec_eq_callAtPort (call := .unlisten u c b) rfl,
    callMade_of_exec_eq_callAtPort (call := .untalk u c b) rfl⟩

end Sys2Proof.Machine
end

-- ==== Proofs of the Dispatcher family (45_dispatcher.md): the calls of any instruction, and the status of close ====
section

namespace Sys2Proof.Machine

/-! ### Every row but those of the controller is the action of one unit -/

section rows

variable {u : UnitNo} {now : Clock} {s t : State}

theorem dispatch_acts {call : DispCall} (hu : call.unit = u) : UnitActs u now s (s.dispatch call) :=
  ⟨.dispatch .refl hu, hu ▸ .dispatch call s⟩

theorem callAtPort_acts (call : DispCall) (s : State) : UnitActs call.unit now s (callAtPort call s) :=
  .ite (dispatch_acts rfl) .refl

theorem cmdListen_acts : UnitActs u now s (cmdListen u s) :=
  ⟨.dispatchSecondary (.updDev .refl), .of_updDev rfl (dispatchSecondary_atMostOneCall u _)⟩

theorem cmdTalk_acts : UnitActs u now s (cmdTalk u s) :=
  ⟨.dispatchSecondary (.updDev .refl), .of_updDev rfl (dispatchSecondary_atMostOneCall u _)⟩

theorem cmdUnlisten_acts : UnitActs u now s (cmdUnlisten u s) :=
  ⟨.cmdUnlisten .refl, cmdUnlisten_atMostOneCall u s⟩

theorem cmdUntalk_acts : UnitActs u now s (cmdUntalk u s) := ⟨.cmdUntalk .refl, cmdUntalk_atMostOneCall u s⟩

theorem cmdNone_acts : UnitActs u now s (cmdNone u s) := ⟨.cmdNone .refl, .inl (cmdNone_becomes u s).2⟩

theorem fabricWrite_acts (cl dl : Bool) : UnitActs u now s (s.fabricWrite u cl dl) :=
  ⟨.fabricWrite .refl, .inl (fabricWrite_becomes u cl dl s).2⟩

/-- The row acts by its body or not at all. -/
theorem rowStep_acts {x : StepCtx} {sel : Bool} {body : State → State} (h : rowStep x sel body s = .next t)
    (hbody : UnitActs x.unit x.now s (body s)) : UnitActs x.unit x.now s t := by
  obtain ⟨-, -, rfl⟩ | ⟨-, rfl⟩ := rowStep_cases h
  exacts [hbody, .refl]

/-- What the decoder reads in a phase format is the unit's receive or transmit step. -/
theorem exec_phaseWord_acts {w : PortWord} {i : Instr} (hfmt : w.fmt = .rx ∨ w.fmt = .tx)
    (hdecode : decode w = .ok i) (h : exec i s = .next t) : UnitActs w.unit w.now s t := by
  obtain hrx | htx := hfmt
  · have hrow : decode (stepWord .rx w.code ⟨w.unit, w.snap, w.now⟩ w.underAtn) = .ok i := by
      simpa only [decode, stepWord, hrx] using hdecode
    rw [exec_of_decode_rx s hrow] at h
    exact rowStep_acts h ⟨rxStep_run _ _ s _ _, rxStep_atMostOneCall _ _ s _ _⟩
  · have hrow : decode (stepWord .tx w.code ⟨w.unit, w.snap, w.now⟩) = .ok i := by
      simpa only [decode, stepWord, htx] using hdecode
    rw [exec_of_decode_tx s hrow] at h
    exact rowStep_acts h ⟨txStep_run _ _ s _, txStep_atMostOneCall _ _ s _⟩

end rows

/-- Whatever the instruction, the calls it makes see the tables as they were and their statuses stand: the controller
operations but `exec` make none, `exec` at most one for each unit, and any other row acts on one unit. -/
theorem exec_callsLatched {i : Instr} {s t : State} (h : exec i s = .next t) :
    ∃ new, CallsLatched new s t := by
  have quiet (hno : NoCall s t) : ∃ new, CallsLatched new s t := ⟨[], hno.callsLatched⟩
  have acts {u : UnitNo} {now : Clock} (hacts : UnitActs u now s t) : ∃ new, CallsLatched new s t :=
    hacts.callsLatched.imp fun _ hnew => hnew.1
  cases i with
  | listen u a => cases h; exact acts (now := 0) (.ite (.ite cmdListen_acts cmdNone_acts) .refl)
  | talk u a => cases h; exact acts (now := 0) (.ite (.ite cmdTalk_acts cmdNone_acts) .refl)
  | unlisten u => cases h; exact acts (now := 0) (.ite cmdUnlisten_acts .refl)
  | untalk u => cases h; exact acts (now := 0) (.ite cmdUntalk_acts .refl)
  | other u p => cases h; exact acts (now := 0) (.ite cmdNone_acts .refl)
  | openCmd u c | closeCmd u c | dataCmd u k c => cases h; exact acts (now := 0) (.ite (dispatch_acts rfl) .refl)
  | nop => cases h; exact quiet (.refl s)
  | init => cases h; exact quiet (initOnce_noCall s)
  | enable i => exact quiet (exec_enable_noCall h)
  | disable i => exact quiet (exec_disable_noCall h)
  | reset => exact quiet (exec_reset_noCall h)
  | exec now => exact (execExec_callsLatched h).imp fun _ hnew => hnew.1
  | fread => cases h; exact quiet ⟨rfl, rfl⟩
  | fwrite u cl dl => cases h; exact acts (now := 0) (.ite (fabricWrite_acts cl dl) .refl)
  | dispOpen | dispClose | dispChannelCommand | dispWrite | dispRead | dispUnlisten | dispUntalk =>
    cases h; exact acts (now := 0) (callAtPort_acts _ s)
  | atnFall x => exact acts (rowStep_acts h ⟨atnEntry_run _ _ s, .inl (atnEntry_becomes _ _ s).2⟩)
  | atnRise x => exact acts (rowStep_acts h ⟨atnReturn_run _ _ s, atnReturn_atMostOneCall _ _ s⟩)
  | _ => exact acts (exec_phaseWord_acts (by simp [encode, stepWord]) (decodeOfEncode _ rfl) h)

/-! ### The status of close and the next open (R199, R200, P4) -/

/-- The record in `t` determines which calls were made since `s`. -/
theorem callsLatched_of_exec {i : Instr} {s t : State} {new : List CallRecord} (h : exec i s = .next t)
    (hcalls : t.calls = new ++ s.calls) : CallsLatched new s t := by
  obtain ⟨made, hmade⟩ := exec_callsLatched h
  obtain rfl : made = new := List.append_cancel_right (hmade.calls.symm.trans hcalls)
  exact hmade

/-- The entry that the close left is the one that the open finds, whatever calls were made beside them. -/
theorem openTable_eq_closeStatus {i j : Instr} {s t t' r : State} {u : UnitNo} {c : Channel}
    {closing opening : List CallRecord} (hi : exec i s = .next t) (hclosing : t.calls = closing ++ s.calls)
    (hkept : t'.statusOf u c = t.statusOf u c) (hj : exec j t' = .next r)
    (hopening : r.calls = opening ++ t'.calls) {k k' : CallRecord} (hk : k ∈ closing)
    (hclose : k.call = .closeCall u c) (hk' : k' ∈ opening) (hopen : k'.call = .openCall u c) :
    k'.table[c] = k.answer.status := by
  have hstands := (callsLatched_of_exec hi hclosing).stands k hk
  have hseen := (callsLatched_of_exec hj hopening).seen k' hk'
  rw [hclose, DispCall.unit_closeCall, DispCall.channel_closeCall] at hstands
  rw [hopen, DispCall.unit_openCall] at hseen
  calc k'.table[c] = t'.statusOf u c := by rw [hseen, State.statusOf]
    _ = t.statusOf u c := hkept
    _ = k.answer.status := hstands

/-- Settles O40: the close leaves its status in the entry, and the open shows the table as it finds it. The two call
rows are the case in which each makes its one call (O39). -/
theorem closeStatusIsVisibleToTheNextOpen : Obligations.CloseStatusIsVisibleToTheNextOpen := by
  refine ⟨fun s t t' u c hin hclose hcfg hkept => ?_,
    fun i j s t t' r u c closing opening hi hclosing hkept hj hopening k hk hclose k' hk' hopen =>
      openTable_eq_closeStatus hi hclosing hkept hj hopening hk hclose hk' hopen⟩
  have hin' : inRange t'.cfg u = true := by rw [hcfg, (exec_keepsInputs hclose).cfg, hin]
  obtain ⟨-, ⟨_, ht, hclosed, -⟩, -⟩ := dispatcherCallsAreRecordedAndLatched s u c 0#8
  obtain ⟨⟨r, hr, hopened, -⟩, -⟩ := dispatcherCallsAreRecordedAndLatched t' u c 0#8
  cases ht.symm.trans hclose
  obtain ⟨⟨hclosing, -⟩, -⟩ := hclosed hin
  obtain ⟨⟨hopening, -⟩, -⟩ := hopened hin'
  exact ⟨r, _, hr, hopening, rfl, openTable_eq_closeStatus (closing := [_]) (opening := [_]) hclose hclosing hkept hr
    hopening (.head _) rfl (.head _) rfl⟩

end Sys2Proof.Machine
end

-- ==== Proofs of the reset and hazards family (70_reset_and_hazards.md): a row with a backward clock ====
section

namespace Sys2Proof.Machine

/-! ### A row that runs inside `exec` only, with a clock that goes backwards (R245) -/

/-- The clock is tested before the unit and the selection: a backward clock refuses also a row that would not act. -/
theorem rowStep_of_clockBack {x : StepCtx} {sel : Bool} {body : State → State} {s : State} {p : Clock}
    (hc : s.clockBack x.now = some p) : rowStep x sel body s = .refused (.clockDecreased p x.now) := by
  rw [rowStep, hc]

/-- Settles O31: every such row is a row step, whichever row the port word decodes to. -/
theorem rowWithBackwardClockIsRefused : Obligations.RowWithBackwardClockIsRefused := by
  intro s x code underAtn i p hw hl hlt hrow
  have hc : s.clockBack x.now = some p := clockBack_eq_some.mpr ⟨hw, hl, hlt⟩
  obtain hrx | htx | rfl | rfl := hrow
  · rw [exec_of_decode_rx s hrx]
    exact rowStep_of_clockBack hc
  · rw [exec_of_decode_tx s htx]
    exact rowStep_of_clockBack hc
  · exact rowStep_of_clockBack hc
  · exact rowStep_of_clockBack hc

end Sys2Proof.Machine
end
